-- ==== Sys2Proof/Word.lean ====
section
/-! DEFINITION. The word types of the LB-60: what travels in fields as bits (bytes, serials, site codes, IR words) and
the unit in which the station's time base is counted. Counts, depths, currents and seconds are plain `Nat`. -/

namespace Sys2Proof

/-- One field byte of a frame (R6, R21). -/
abbrev Byte := BitVec 8

/-- A 40-bit serial number (R21). -/
abbrev Serial := BitVec 40

/-- A 16-bit site code; 0 means unset (R21). -/
abbrev Site := BitVec 16

/-- One word of the IR programmer (11, "IR words"). -/
abbrev IrWord := BitVec 32

/-! Moments and durations of the station's time base are natural numbers of microseconds. DESIGN CHOICE (log 2): the finest
time of the manual is half a cell, 250 microseconds. -/

/-- `n` seconds. -/
def seconds (n : Nat) : Nat := 1000000 * n

end Sys2Proof
end

