-- ==== Sys2Proof/Syntax.lean ====
section
/-! DEFINITION. The commands of the LB-60: one constructor of `Instr` for each row of spec/opcode_table.json, and the
operands that carry what the outside shows the station. A command with an operand `t` happens at the moment `t` of the
station's time base; a command without one is the end of a duration that the station itself holds, and happens when that
duration ends (log 2). -/

namespace Sys2Proof

/-- What the two channels sense of one frame, half-cell by half-cell from its START leading edge up to the moment of its
decision (R14, R16). `dips` are the falls of the node voltage below the V baseline in whole mV, rounded down (R2);
`through` are the changes of the through-current from the I baseline in 0.01 mA steps, positive from side A to side B,
rounded towards 0 (R3). DESIGN CHOICE (log 9). -/
structure Heard where
  dips : List Int
  through : List Int
deriving DecidableEq, Repr

/-- What the sampler reads of one tail (R42): the mean over the second quiet cell and the reading at the centre of each
of the 64 periods, for the node voltage (codes of 0.25 mV) and for the through-current (codes of 0.01 mA, positive from
side A to side B). -/
structure TailReadings where
  vReference : Int
  v : Vector Int 64
  iReference : Int
  i : Vector Int 64
deriving DecidableEq, Repr

/-- What has been sensed up to a LINE_IDLE. With a hearing in `frame`, the frame that the idle ends is decided in the step of
the idle; without one its decision is left to the command of its kind (log 8). `tail` is what the sampler has read up to now
of a tail it is sampling (R42); the readings of periods still to come are not looked at. -/
structure IdleHearing where
  frame : Option Heard
  tail : TailReadings
deriving DecidableEq, Repr

/-- The dips, in whole mV rounded down, over the two halves of one cell (R2, log 9); the second is not looked at while
only the first half has been judged. -/
structure CellDips where
  first : Int
  second : Int
deriving DecidableEq, Repr

/-- What the chatter guard has seen of the sink's own current (R12): from `since`, where the last gap of no current ended, to
`upTo`, the moment of the command, the sink has drawn current without a break. -/
structure SinkDrawn where
  since : Nat
  upTo : Nat
deriving DecidableEq, Repr

/-- The voltages of side A and side B, in mV (R163). -/
structure SideVoltages where
  a : Int
  b : Int
deriving DecidableEq, Repr

/-- The commands, one for each row of spec/opcode_table.json. -/
inductive Instr where
  /-- LINE_IDLE: the V-channel has judged no sink for 6 ms (R5). -/
  | lineIdle (t : Nat) (heard : IdleHearing)
  /-- START_LEADING_EDGE: a dip of `dip` mV is heard on the line (R5, R14). -/
  | startLeadingEdge (t : Nat) (dip : Int)
  /-- CONTENTION_LOST: while the station sends cell `cell` of its contention field the V-channel sees `dip` mV (R8). -/
  | contentionLost (cell : Nat) (dip : Int)
  /-- SEND_MISMATCH: the V-channel sees `dips` over the cell of half-cell `half` of the station's frame, up to that half
  (R10). -/
  | sendMismatch (half : Nat) (dips : CellDips)
  /-- MESSAGE_SENT: the CHECK cell has been sent with no mismatch (R11). -/
  | messageSent
  /-- OWN_TAIL_START: the two quiet cells before the station's own tail have passed (R40). -/
  | ownTailStart
  /-- TAIL_END: period 63 of a tail ends; `r` is what the sampler read of it (R41, R42). -/
  | tailEnd (r : TailReadings)
  /-- SINK_LOCKOUT: the sink has drawn current for more than 50 ms without a break (R12). -/
  | sinkLockout (drawn : SinkDrawn)
  /-- PRESENCE: a frame heard as `heard` is decided and is a received PRESENCE (R30). -/
  | presence (t : Nat) (heard : Heard)
  /-- TEST: a frame heard as `heard` is decided and is a received TEST (R31). -/
  | test (t : Nat) (heard : Heard)
  /-- QUERY: a frame heard as `heard` is decided and is a received QUERY (R32). -/
  | query (t : Nat) (heard : Heard)
  /-- QUIET: a frame heard as `heard` is decided and is a received QUIET (R33). -/
  | quiet (t : Nat) (heard : Heard)
  /-- REPLY: a frame heard as `heard` is decided and is a received REPLY (R37). -/
  | reply (t : Nat) (heard : Heard)
  /-- FRAME_DISCARDED: a frame heard as `heard` is decided and is discarded or set aside as foreign (R15, R23). -/
  | frameDiscarded (t : Nat) (heard : Heard)
  /-- SECOND_TICK: a second of the time base ends (R176). `through` is the mean through-current of that second in 0.01 mA
  steps, positive from A to B (R98), or none where the reading is given by ORIENTATION_CHANGE (log 16); `identity` is the
  code of the identity converter (R126). -/
  | secondTick (through : Option Int) (identity : BitVec 10)
  /-- ORIENTATION_CHANGE: a reading of the through-current is formed (R98, R99), the third that agrees on a new value. -/
  | orientationChange (t : Nat) (reading : Int)
  /-- ENTRY_STALE: the age of the entry of this serial reaches its STALE threshold (R75). -/
  | entryStale (serial : Serial)
  /-- ENTRY_REMOVED: the age of the entry of this serial reaches its removal threshold (R76). -/
  | entryRemoved (serial : Serial)
  /-- PRESENCE_TIMER_EXPIRY (R114). -/
  | presenceTimerExpiry
  /-- QUIET_END: quiet-until is reached (R121). -/
  | quietEnd
  /-- ALARM_ASSERTED: the filtered alarm line is asserted (R125, R130). -/
  | alarmAsserted (t : Nat)
  /-- ALARM_RELEASED: the filtered alarm line is released (R125, R131). -/
  | alarmReleased (t : Nat)
  /-- SETTLING_END: the SETTLING timer expires (R129). -/
  | settlingEnd
  /-- CONFIRMED_ALARM: the confirm timer expires with the line asserted (R132). -/
  | confirmedAlarm
  /-- RESETTING_END: the RESETTING timer expires (R133). -/
  | resettingEnd
  /-- RECOVERING_END: the RECOVERING timer expires (R134). -/
  | recoveringEnd
  /-- TESTED_LATCH_EXPIRY (R140). -/
  | testedLatchExpiry
  /-- SHORT_CRITERION: the side voltages and the through-current (0.01 mA steps) have stood so for 1 ms (R163). `r` is what
  the sampler has read up to now of a tail it is sampling; the readings of periods to come are not looked at (R42, R44). -/
  | shortCriterion (t : Nat) (sides : SideVoltages) (through : Int) (r : TailReadings)
  /-- OPEN_WAIT_EXPIRY (R165). -/
  | openWaitExpiry
  /-- TRIAL_EXPIRY (R166). -/
  | trialExpiry
  /-- BAND_LOW: the supply has stood at `mV` below 17.0 V for 1 ms (R169). -/
  | bandLow (t : Nat) (mV : Nat)
  /-- BAND_NORMAL: the supply has stood at `mV`, at or above 17.5 V, for 1 ms (R169). -/
  | bandNormal (t : Nat) (mV : Nat)
  /-- BAND_CRITICAL: the supply has stood at `mV` below 14.0 V for 1 ms (R169, R171). -/
  | bandCritical (t : Nat) (mV : Nat)
  /-- START_BEGIN: the supply has stood at or above `mV` for 100 ms without a break (R169); `kept` says whether the
  retained domain has kept its contents since the chip entered reset (R172). -/
  | startBegin (t : Nat) (mV : Nat) (kept : Bool)
  /-- CLOCK_SETTLE: the CLOCK_SETTLE phase ends (R173). -/
  | clockSettle
  /-- LOAD_SETTINGS: the LOAD_SETTINGS phase ends (R173, R182, R183). -/
  | loadSettings
  /-- SELF_TEST: the SELF_TEST phase ends; `heard` is what the decoders' inputs showed of the test frame up to the end of
  its CHECK cell, `r` what the sampler read of the test tail (R174). -/
  | selfTest (heard : Heard) (r : TailReadings)
  /-- DIGIT: an IR word arrives, an accepted digit key (R180). -/
  | digit (t : Nat) (word : IrWord)
  /-- ENTER: an IR word arrives, an accepted ENTER key (R180). -/
  | enter (t : Nat) (word : IrWord)
  /-- CANCEL: an IR word arrives, an accepted CANCEL key (R180). -/
  | cancel (t : Nat) (word : IrWord)
  /-- SOUND: an IR word arrives, an accepted SOUND key (R180). -/
  | sound (t : Nat) (word : IrWord)
  /-- CLEAR: an IR word arrives, an accepted CLEAR key (R180). -/
  | clear (t : Nat) (word : IrWord)
  /-- RESTART: an IR word arrives, an accepted RESTART key or a repeat that carries RESTART (R179). -/
  | restart (t : Nat) (word : IrWord)
  /-- SITE_CLEAR: an IR word arrives, an accepted SITE_CLEAR key (R180). -/
  | siteClear (t : Nat) (word : IrWord)
  /-- ENTRY_TIMER_EXPIRY (R180). -/
  | entryTimerExpiry
  /-- SETTINGS_WRITE: the settings write ends; the operands are the site code, address and check byte read back (R181). -/
  | settingsWrite (site : Site) (address check : Byte)
  /-- IR_FEEDBACK_END (R185). -/
  | irFeedbackEnd
  /-- IDENTIFY_TIMER_EXPIRY (R185). -/
  | identifyTimerExpiry
  /-- LAST_SERIAL_CELL_SENT: the last SERIAL cell has been sent without loss or mismatch (R8, R10). -/
  | lastSerialCellSent
  /-- IR_WORD_DISCARDED: an IR word arrives that is discarded, ignored, or the repeat of a key other than RESTART (R177,
  R178). -/
  | irWordDiscarded (t : Nat) (word : IrWord)
deriving DecidableEq, Repr

end Sys2Proof
end

