-- ==== Sys2Proof/Decode.lean ====
section
/-! DEFINITION. The commands that words spell. Every row of spec/opcode_table.json has an empty list of fields and no
fixed bits: no word spells a command of this block (log 41). The frames of the line have their own decoder,
Machine/Operands.lean. -/

namespace Sys2Proof

/-- The command a word of `nbits` bits spells by the table's bits: none, for no row has bits. -/
def decodeTableWord (_nbits _w : Nat) : Option Instr := none

end Sys2Proof
end

