-- ==== Sys2Proof/Config.lean ====
section
/-! DEFINITION. The constants the manual fixes (durations, thresholds, capacities), each with the rule that states it,
and the one free value: what the NV settings record holds while a write runs (R181, log 6). The constants are abbreviations, so
that a number and its name are one and the same to every tactic. -/

namespace Sys2Proof.Config

/-! ### The line (01) -/

/-- Least dip, in mV, that the V-channel judges as sink (R2). -/
abbrev dipThreshold : Int := 8
/-- Least change of through-current, in 0.01 mA steps, that the I-channel judges as sink: 5 mA (R3). -/
abbrev throughThreshold : Int := 500
/-- A half-cell (R4). -/
abbrev halfCell : Nat := 250
/-- Half-cells from the START leading edge to the end of the last SERIAL cell: 44 cells (R5, R6). -/
abbrev contentionHalves : Nat := 88
/-- The largest LENGTH a frame may carry (R6). -/
abbrev maxLength : Nat := 48
/-- The V-channel must judge no sink for this long before the line is idle (R5). -/
abbrev idleTime : Nat := 6000
/-- The abort count at which a message is discarded (R11). -/
abbrev abortLimit : Nat := 8
/-- The two quiet cells before a tail (R40). -/
abbrev quietCells : Nat := 1000
/-- One period of a sounding tail (R40). -/
abbrev tailPeriod : Nat := 2000
/-- The 64 periods of a sounding tail (R40). -/
abbrev tailTime : Nat := 128000
/-- The sink may draw current for this long without a break; longer sets the sink lockout (R12). -/
abbrev sinkLimit : Nat := 50000
/-- Largest value of a reception tally (R18). -/
abbrev tallyTop : Nat := 65535

/-! ### Sounding (03) -/

/-- The lowest sample code; a sample that shows it is clipped (R42). -/
abbrev sampleLow : Int := -2048
/-- The highest sample code; a sample that shows it is clipped (R42). -/
abbrev sampleHigh : Int := 2047
/-- Largest quality (R56). -/
abbrev qualityTop : Nat := 15
/-- An own fraction over this many per mille sets SENSE_FAULT (R59). -/
abbrev senseLimit : Nat := 250
/-- The trim used when the factory area fails its check, in uA (R183). -/
abbrev nominalTrim : Nat := 10000
/-- The lowest trim of the factory range and of what is handed on (R1, R30). -/
abbrev trimLow : Nat := 9000
/-- The highest trim of the factory range and of what is handed on (R1, R30). -/
abbrev trimHigh : Nat := 11000

/-! ### Roster, relations, presence, quiet (04, 05, 06) -/

/-- The roster holds at most this many entries (R64). -/
abbrev rosterCapacity : Nat := 250
/-- Largest age of an entry in seconds (R74). -/
abbrev ageTop : Nat := 65535
/-- Largest count of restarts seen (R72). -/
abbrev restartsTop : Nat := 15
/-- The peer interval held until a PRESENCE is heard, in seconds (R65). -/
abbrev unheardInterval : Nat := 155
/-- The least magnitude, in 0.01 mA steps, of a reading that gives a direction (R98). -/
abbrev directionSteps : Nat := 20
/-- Consecutive agreeing readings that change the orientation (R99). -/
abbrev runLength : Nat := 3
/-- The interval of a station that hears no live peer, in seconds (R112). -/
abbrev baseInterval : Nat := 30
/-- The presence timer's time at RUNNING, before the offset (R113). -/
abbrev firstPresence : Nat := 10000000
/-- The unit of the presence offset (R111). -/
abbrev offsetStep : Nat := 100000
/-- The longest quiet, in seconds (R119). -/
abbrev quietTop : Nat := 60

/-! ### Head and journal (07, 08) -/

/-- The settling time of a head newly fitted (R128). -/
abbrev settlingTime : Nat := 30000000
/-- The alarm line's filter: a shorter pull or release is not seen (R125). -/
abbrev alarmFilter : Nat := 50000
/-- How long an alarm is held before it is confirmed (R130). -/
abbrev confirmTime : Nat := 2000000
/-- How long the head's supply is removed (R132, R134). -/
abbrev resetTime : Nat := 1000000
/-- How long the head warms up after a reset (R133). -/
abbrev recoverTime : Nat := 5000000
/-- The tested latch's time (R140). -/
abbrev latchTime : Nat := 30000000
/-- The reset cycle count at which a head is STUCK (R135). -/
abbrev stuckCycles : Nat := 3
/-- Largest test number (R138). -/
abbrev testNumberTop : Nat := 255
/-- The journal holds at most this many entries (R146). -/
abbrev journalCapacity : Nat := 64

/-! ### Isolator, supply, starts (10) -/

/-- Below this far-side voltage, in mV, the voltage test of the short criterion can hold (R163). -/
abbrev shortFarBelow : Int := 8000
/-- At or above this feed-side voltage, in mV, the voltage test of the short criterion can hold (R163). -/
abbrev shortFeedAtLeast : Int := 14000
/-- A through-current above this magnitude, in 0.01 mA steps, meets the short criterion: 350 mA (R163). -/
abbrev shortThrough : Nat := 35000
/-- The wait of an open isolator before a trial (R164). -/
abbrev openWaitTime : Nat := 10000000
/-- The length of a trial (R165). -/
abbrev trialTime : Nat := 100000
/-- How long the short criterion must have held without a break (R163). -/
abbrev shortHold : Nat := 1000
/-- The failed-trial count that latches the isolator (R166). -/
abbrev latchTrials : Nat := 3
/-- Below this voltage, in mV, NORMAL becomes LOW (R169). -/
abbrev lowBelow : Nat := 17000
/-- From this voltage, in mV, LOW becomes NORMAL (R169). -/
abbrev normalFrom : Nat := 17500
/-- Below this voltage, in mV, the band is CRITICAL (R169). -/
abbrev criticalBelow : Nat := 14000
/-- From this voltage, in mV, held for 100 ms, a start begins (R169). -/
abbrev startFrom : Nat := 15000
/-- How long a voltage must hold on its new side of a threshold before the band changes (R169). -/
abbrev bandHold : Nat := 1000
/-- How long the voltage must stand before a start begins (R169, R171). -/
abbrev startHold : Nat := 100000
/-- The CLOCK_SETTLE phase (R173). -/
abbrev clockSettleTime : Nat := 20000
/-- The LOAD_SETTINGS phase (R173). -/
abbrev loadTime : Nat := 2000
/-- The SELF_TEST phase (R174). -/
abbrev selfTestTime : Nat := 160000
/-- The lowest accumulation that passes the self-test (R174). -/
abbrev selfTestLow : Int := 7680
/-- The highest accumulation that passes the self-test (R174). -/
abbrev selfTestHigh : Int := 8704
/-- The second tick (R176). -/
abbrev tickTime : Nat := 1000000
/-- Largest uptime in seconds (R176). -/
abbrev uptimeTop : Nat := 16777215

/-! ### IR entry, settings, indicator (11) -/

/-- A valid word this long after the last one can still be a repeat (R178). -/
abbrev repeatGap : Nat := 200000
/-- How long RESTART is held before it acts (R179). -/
abbrev restartHold : Nat := 3000000
/-- The entry timer (R180). -/
abbrev entryTime : Nat := 10000000
/-- The settings write (R181). -/
abbrev writeTime : Nat := 40000
/-- The largest address (R180, R182). -/
abbrev addressTop : Nat := 240
/-- The length of the acknowledge feedback (R185). -/
abbrev acknowledgeTime : Nat := 600000
/-- The length of the error feedback (R185). -/
abbrev errorTime : Nat := 1000000
/-- The IDENTIFY timer (R158). -/
abbrev identifyTime : Nat := 20000000

/-! ### The free value -/

/-- What the NV settings record holds (site code, address, check byte, 32 bits) from the moment a write begins until it
completes or fails, and for good if a start cuts it off. R181 says that the write erases and programs the record and
that a cut write leaves it without its mark; it does not say which bits stand there meanwhile. DESIGN CHOICE (log 6): a free
value, one for each write, drawn with the counter `State.free`. -/
opaque unsettledRecord : Nat → BitVec 32

end Sys2Proof.Config
end

