-- ==== Sys2Proof/Machine/State.lean ====
section
/-! DEFINITION. The state of one LB-60 as plain data, block by block as the manual's overview lists them (00), the
reasons a step can stop, and the state after reset. The default of a field is the value its chapter gives it "at every
start"; where the manual gives none, the docstring names the log entry. -/

namespace Sys2Proof.Machine

/-! ### Named values (R27 and the chapters that own them) -/

/-- Which side of the station faces the feed (R99). -/
inductive Orientation where
  | unknown | feedA | feedB
deriving DecidableEq, Repr

/-- The kind of the last start (R172). -/
inductive RestartCause where
  | powerOn | brownout | irRestart
deriving DecidableEq, Repr

/-- The head state (R128 to R137); `noHead` is the manual's NONE. -/
inductive HeadState where
  | noHead | settling | ready | confirming | resetting | recovering | stuck | fault
deriving DecidableEq, Repr

/-- The valid head types (R126). -/
inductive HeadType where
  | optical | heatFixed | heatRise | multi
deriving DecidableEq, Repr

/-- An identity value (R126). -/
inductive Identity where
  | noHead
  | fault
  | head (type : HeadType)
deriving DecidableEq, Repr

/-- The test state (R138). -/
inductive TestState where
  | notTested | passed | stuck
deriving DecidableEq, Repr

/-- The kind of a test event (R138). -/
inductive TestKind where
  | pass | repeatPass | stuck
deriving DecidableEq, Repr

/-- The state of a roster entry (R75). -/
inductive EntryState where
  | live | stale
deriving DecidableEq, Repr

/-- On which channels an accepted frame was heard (R15). -/
inductive Via where
  | v | i | both
deriving DecidableEq, Repr

/-- The relation of an entry (R90 to R92). -/
inductive Relation where
  | unmeasured | upstream | downstream | branched | split | inconsistent
deriving DecidableEq, Repr

/-- The isolator state (R162). -/
inductive IsolatorState where
  | closed | openWait | trial | latched
deriving DecidableEq, Repr

/-- The supply band (R169). -/
inductive Band where
  | normal | low | critical
deriving DecidableEq, Repr

/-- The last damage kind (R18); `noDamage` is the manual's NONE. -/
inductive DamageKind where
  | noDamage | mismatch | iDamaged | vCoding | vCheck | length | malformed
deriving DecidableEq, Repr

/-- The last rejection kind (R46); `noRejection` is the manual's NONE. -/
inductive RejectionKind where
  | noRejection | truncated | lowSupply | clipped | disturbed | noDip
deriving DecidableEq, Repr

/-- Who wrote a journal entry (R144, R145). -/
inductive JournalSource where
  | own | peer
deriving DecidableEq, Repr

/-- The start phases (R173); `held` is the chip held in reset on a CRITICAL supply (R171). -/
inductive Phase where
  | held | clockSettle | loadSettings | selfTest | running
deriving DecidableEq, Repr

/-- The states of the line sender (01, table after R11). `quietCells` is the model's name for the two quiet cells between
the CHECK cell of a PRESENCE and its tail, in which the sender waits (R11, log 40). -/
inductive SenderState where
  | waiting | contending | payload | quietCells | tail | locked
deriving DecidableEq, Repr

/-- The three kinds of message a station sends, each with a slot (R7). -/
inductive OutKind where
  | test | reply | presence
deriving DecidableEq, Repr

/-- The entry states of the IR entry port (R180). -/
inductive EntryMode where
  | idle | entering | storing
deriving DecidableEq, Repr

/-- The two kinds of IR feedback (R185). -/
inductive FeedbackKind where
  | acknowledge | error
deriving DecidableEq, Repr

/-- What the LED shows (R187). `dark` is the LED of a chip held in reset (log 22). -/
inductive Pattern where
  | dark | lockout | identify | acknowledge | error | entering | stuck | conflict | tested | unaddressed | normal
deriving DecidableEq, Repr

/-- A timer: stopped (none), or running until a moment of the time base. -/
abbrev Timer := Option Nat

/-! ### The blocks -/

/-- The retained domain, which can outlast a fall into CRITICAL (R172): the retention mark and the sink lockout latch
(R12, R13). -/
structure Retained where
  mark : Bool := true
  lockout : Bool := false
deriving DecidableEq, Repr

/-- The loop port: the sink's series cutoff (R1, R12) and the orientation with its candidate and run count (R99).
`readingsFrom` is the moment from which a whole second must have passed before the next reading counts: RUNNING entered,
the last reading, or the isolator's return to CLOSED (R98, R100, log 16). The candidate's start value is not stated (log
17). From `guardFrom`, where the start began, the chatter guard counts the sink's current (R12, log 50). -/
structure Port where
  cutoffOpen : Bool := false
  guardFrom : Nat := 0
  orientation : Orientation := .unknown
  candidate : Orientation := .unknown
  run : Nat := 0
  readingsFrom : Nat := 0
deriving DecidableEq, Repr

/-- A frame that both channels decode (R14): the moment of its START leading edge, the orientation standing there, which
holds for the whole frame (R101), whether the isolator was not CLOSED at that moment, and the moments at which it has
left or regained CLOSED since (R3). -/
structure RxFrame where
  startedAt : Nat
  orientation : Orientation
  mutedAtStart : Bool
  crossings : List Nat
deriving DecidableEq, Repr

/-- The line receiver (R5, R14, R18, R19). `underWay` is the frame being decoded; `awaiting` are the frames that idles
have ended and that have not been decided yet, oldest first (R16, log 8). No idle is judged before `idleNotBefore`, and
`idleInTail` says that one has been judged since the own tail last began (R5, R47, log 39). -/
structure Receiver where
  idle : Bool := false
  idleNotBefore : Nat := 0
  idleInTail : Bool := false
  underWay : Option RxFrame := none
  awaiting : List RxFrame := []
  good : Nat := 0
  damaged : Nat := 0
  foreign : Nat := 0
  lastDamage : DamageKind := .noDamage
deriving DecidableEq, Repr

/-- A sender slot (R7). -/
structure Slot where
  filled : Bool := false
  aborts : Nat := 0
  refill : Bool := false
deriving DecidableEq, Repr

/-- The message on the line: the field bytes captured at its START cell (R8), whether a tail follows it (R39), and the
moment of its START cell. -/
structure Outgoing where
  kind : OutKind
  fields : List Byte
  soundFollows : Bool
  startedAt : Nat
deriving DecidableEq, Repr

/-- The line sender (R7 to R12, R19). `tailAt` ends the quiet cells, then the own tail (R40). -/
structure LineSender where
  state : SenderState := .waiting
  test : Slot := {}
  reply : Slot := {}
  presence : Slot := {}
  outgoing : Option Outgoing := none
  tailAt : Timer := none
deriving DecidableEq, Repr

/-- An observation under way (R43, R44, R45): of a peer's tail (its serial) or of the own tail (none), the trim taken with
it, the noted orientation, whether the band has been other than NORMAL since period 0 (R48), whether the orientation has
flipped since the first sample (R43), and the moments of period 0, of the first sample and of the end of period 63. -/
structure Observation where
  peer : Option Serial
  trim : Nat
  noted : Orientation
  low : Bool
  flipped : Bool
  tailFrom : Nat
  firstSample : Nat
  endsAt : Nat
deriving DecidableEq, Repr

/-- The last accepted own observation: the moment of its decision, the orientation noted with it, and SENSE_FAULT as it
stood before. A flip at that very moment drops the merge (R43, R85, log 48). -/
structure OwnMerge where
  decidedAt : Nat
  noted : Orientation
  faultBefore : Bool
deriving DecidableEq, Repr

/-- The sounding unit (R45): IDLE while `obs` is none, SAMPLING while it is some. -/
structure Sounding where
  obs : Option Observation := none
  vStore : List Int := []
  iStore : List Int := []
  ownDepth : Option Nat := none
  ownQuality : Nat := 0
  senseFault : Bool := false
  lastRejection : RejectionKind := .noRejection
  ownMerge : Option OwnMerge := none
deriving DecidableEq, Repr

/-- One peer's record (04, table before R64). `depth` is the announced depth, `shared` the shared depth S, `through` the
through fraction. -/
structure Entry where
  serial : Serial
  address : Nat
  state : EntryState
  via : Via
  age : Nat
  interval : Nat
  depth : Option Nat
  uptime : Option Nat
  headState : HeadState
  testState : TestState
  shared : Option Nat
  through : Option Nat
  quality : Nat
  relation : Relation
  restarts : Nat
deriving DecidableEq, Repr

/-- The roster (R64, R88): the entries in roster order (R66), ROSTER_FULL, SERIAL_CLASH, and the conflict serial, present
exactly while CONFLICT is shown (R81). -/
structure Roster where
  entries : List Entry := []
  full : Bool := false
  clash : Bool := false
  conflict : Option Serial := none
deriving DecidableEq, Repr

/-- The presence scheduler (R110). -/
structure Scheduler where
  timer : Timer := none
  interval : Nat := Config.baseInterval
  offset : Nat := 0
  quietUntil : Timer := none
  deferred : Bool := false
  exempt : Bool := false
  exemptRefill : Bool := false
deriving DecidableEq, Repr

/-- The test record (R138). -/
structure TestRecord where
  state : TestState := .notTested
  number : Option Nat := none
  type : Option HeadType := none
deriving DecidableEq, Repr

/-- The last test event (R139). -/
structure TestEvent where
  kind : TestKind
  number : Nat
  type : HeadType
  uptime : Nat
deriving DecidableEq, Repr

/-- The head supervisor (07, table at the head of the chapter; R142). `alarmFrom` is the moment from which the filtered alarm
line has stood at its level `alarm` while the head had its supply (R125, log 47). -/
structure Head where
  supply : Bool := false
  alarm : Bool := false
  alarmFrom : Nat := 0
  identity : Identity := .noHead
  previous : Option Identity := none
  state : HeadState := .noHead
  headType : Option HeadType := none
  timer : Timer := none
  cycles : Nat := 0
  record : TestRecord := {}
  lastEvent : Option TestEvent := none
  testedLatch : Timer := none
deriving DecidableEq, Repr

/-- One journal entry (08, table before R143). `typeTested` is kept besides, as R69 says, and nothing reads it: DESIGN CHOICE
where R69 and that table differ (log 45). -/
structure JournalEntry where
  heardAt : Nat
  serial : Serial
  address : Nat
  kind : TestKind
  number : Nat
  typeTested : HeadType
  source : JournalSource
deriving DecidableEq, Repr

/-- The test journal, oldest entry first (R143, R150). -/
structure Journal where
  entries : List JournalEntry := []
  wrapped : Bool := false
deriving DecidableEq, Repr

/-- The pending reply record (R151). -/
structure PendingReply where
  requester : Serial
  item : Nat
  index : Option Nat
deriving DecidableEq, Repr

/-- The reply unit (R151). -/
structure ReplyUnit where
  record : Option PendingReply := none
deriving DecidableEq, Repr

/-- The isolator control (R162). -/
structure Isolator where
  state : IsolatorState := .closed
  failed : Nat := 0
  timer : Timer := none
deriving DecidableEq, Repr

/-- The supply monitor (R169, R172, R173, R176). `tickAt` is the moment of the next second tick. Before `bandNotBefore` the
voltage cannot have stood long enough on the side to which the band would go back (R169, log 49). -/
structure Supply where
  band : Band := .low
  bandNotBefore : Nat := 0
  cause : RestartCause := .powerOn
  phase : Phase := .clockSettle
  phaseTimer : Timer := none
  uptime : Nat := 0
  tickAt : Timer := none
  selftestFail : Bool := false
deriving DecidableEq, Repr

/-- The factory area of the NV (R183). Whether its own check passes is held as a truth value, for the manual gives
no format for it (log 23). -/
structure FactoryArea where
  serial : Serial := 0
  trim : Nat := Config.nominalTrim
  checkOk : Bool := true
deriving DecidableEq, Repr

/-- The settings record of the NV (R182); the default is the erased record, 0xFF in every byte and no mark. -/
structure SettingsRecord where
  site : Site := 0xFFFF
  address : Byte := 0xFF
  check : Byte := 0xFF
  mark : Bool := false
deriving DecidableEq, Repr

/-- The settings store (R182, R183): the two NV areas, and the values read from them at the last LOAD_SETTINGS or stored
since. The values before the first LOAD_SETTINGS of a start are not stated (log 5). -/
structure Settings where
  factory : FactoryArea := {}
  record : SettingsRecord := {}
  serial : Serial := 0
  trim : Nat := Config.nominalTrim
  site : Site := 0
  address : Nat := 0
  recovered : Bool := false
deriving DecidableEq, Repr

/-- A staged address (R180). -/
structure Staged where
  value : Nat
  digits : Nat
deriving DecidableEq, Repr

/-- The last valid word (R178). -/
structure LastWord where
  toggle : Bool
  arrived : Nat
deriving DecidableEq, Repr

/-- A press (R178): its key and the time of its first word. -/
structure Press where
  key : Nat
  since : Nat
deriving DecidableEq, Repr

/-- A settings write under way (R181). -/
structure Write where
  site : Site
  address : Nat
  endsAt : Nat
deriving DecidableEq, Repr

/-- The IR entry port (11, table before R177; R181, R184). -/
structure IrPort where
  mode : EntryMode := .idle
  staged : Option Staged := none
  entryTimer : Timer := none
  lastValid : Option LastWord := none
  press : Option Press := none
  checkError : Bool := false
  siteMismatch : Bool := false
  overflow : Bool := false
  write : Option Write := none
deriving DecidableEq, Repr

/-- A running IR feedback (R185). -/
structure Feedback where
  kind : FeedbackKind
  endsAt : Nat
deriving DecidableEq, Repr

/-- The indicator (R185, R186): its two timers, the pattern shown and the moment that pattern began. -/
structure Indicator where
  feedback : Option Feedback := none
  identify : Timer := none
  shown : Pattern := .unaddressed
  since : Nat := 0
deriving DecidableEq, Repr

end Sys2Proof.Machine

namespace Sys2Proof.Machine

/-- The whole station. `pending` is the queue of commands that wait, first in, first out; `now` is the station's time base
(log 2); `free` counts the free values drawn so far (log 6). -/
structure State where
  pending : List Instr := []
  now : Nat := 0
  free : Nat := 0
  retained : Retained := {}
  port : Port := {}
  rx : Receiver := {}
  sender : LineSender := {}
  sounding : Sounding := {}
  roster : Roster := {}
  sched : Scheduler := {}
  head : Head := {}
  journal : Journal := {}
  reply : ReplyUnit := {}
  isolator : Isolator := {}
  supply : Supply := {}
  settings : Settings := {}
  ir : IrPort := {}
  indicator : Indicator := {}
deriving DecidableEq, Repr

/-- Why the machine could stop with a fault: nothing in the manual stops an LB-60, so there is no reason (log 32). What
the manual calls a fault is state (SENSE_FAULT, SELFTEST_FAIL, head state FAULT, a damage or rejection kind). Safe: no
step faults. -/
inductive Fault where
deriving DecidableEq, Repr

/-- Why a command could have no meaning. -/
inductive Refusal where
  /-- Raised by `exec`'s arm of a command that is not modelled; every command is modelled, so no arm raises it. Safe. -/
  | notModelled (mnemonic : String)
deriving DecidableEq, Repr

/-- The station right after reset: the beginning of its first start, which R172 makes a POWER_ON start. The retention
mark is written and the lockout clear (R13, R172), the band is LOW (R169), the phase is CLOCK_SETTLE with its 20 ms running
(R173), and every block holds the value its chapter gives it at every start. DESIGN CHOICE for what the manual leaves open
(log 1, 3, 4, 5). -/
def State.reset : State :=
  { supply := { phaseTimer := some Config.clockSettleTime } }

end Sys2Proof.Machine
end

