-- ==== Sys2Proof/Machine/Operands.lean ====
section
/-! DEFINITION. The forms in which operands reach the station: what the two channels judge (R2, R3), cells and frames
(R4, R6, R14), the CHECK (R22), the bytes of fields (R21), the fields of an IR word (11), and the samples of a tail (R42,
R43). Also the frame a sender puts on the line, half-cell by half-cell. -/

namespace Sys2Proof.Machine

/-! ### Bytes of fields (R21) -/

/-- A number as one byte. -/
def u8 (n : Nat) : Byte := BitVec.ofNat 8 n

/-- A number as two bytes, most significant first. -/
def u16 (n : Nat) : List Byte := [u8 (n / 256), u8 n]

/-- A number as three bytes, most significant first. -/
def u24 (n : Nat) : List Byte := [u8 (n / 65536), u8 (n / 256), u8 n]

/-- A serial as five bytes, most significant first. -/
def serialBytes (s : Serial) : List Byte :=
  [s.extractLsb' 32 8, s.extractLsb' 24 8, s.extractLsb' 16 8, s.extractLsb' 8 8, s.extractLsb' 0 8]

/-- A site code as two bytes, most significant first. -/
def siteBytes (s : Site) : List Byte := [s.extractLsb' 8 8, s.extractLsb' 0 8]

/-- The number that bytes carry, most significant first. -/
def bytesToNat (bs : List Byte) : Nat := bs.foldl (fun acc b => 256 * acc + b.toNat) 0

/-- Byte `k` of the fields as a number; 0 where there is none. -/
def fieldAt (fields : List Byte) (k : Nat) : Nat := (fields.getD k 0).toNat

/-- `n` field bytes from byte `k` as a number. -/
def fieldNat (fields : List Byte) (k n : Nat) : Nat := bytesToNat ((fields.drop k).take n)

/-- The five bytes from byte `k` as a serial. -/
def fieldSerial (fields : List Byte) (k : Nat) : Serial := BitVec.ofNat 40 (fieldNat fields k 5)

/-- Bit `b` of byte `k` of the fields. -/
def fieldBit (fields : List Byte) (k b : Nat) : Bool := (fields.getD k 0).getLsbD b

/-! ### The CHECK (R22) -/

/-- One of the eight shifts of the CHECK register. -/
def crcShift (r : Byte) : Byte := if r.getLsbD 7 then (r <<< 1) ^^^ 0x07 else r <<< 1

/-- The CHECK register after one more byte. -/
def crcByte (r b : Byte) : Byte :=
  crcShift (crcShift (crcShift (crcShift (crcShift (crcShift (crcShift (crcShift (r ^^^ b))))))))

/-- The CHECK register after a run of bytes, from 0. -/
def crc (bs : List Byte) : Byte := bs.foldl crcByte 0

/-- A frame as decoded on one channel, or as captured for sending. -/
structure Frame where
  cls : BitVec 3
  serial : Serial
  fields : List Byte
  check : Byte
deriving DecidableEq, Repr

/-- The bytes the CHECK is computed over, in the order of R22. -/
def checkedBytes (cls : BitVec 3) (serial : Serial) (fields : List Byte) : List Byte :=
  serialBytes serial ++ [cls.zeroExtend 8, u8 fields.length] ++ fields

/-- The CHECK a sender computes (R22). -/
def checkOf (cls : BitVec 3) (serial : Serial) (fields : List Byte) : Byte := crc (checkedBytes cls serial fields)

/-- The CHECK of a frame is correct when the register, carried on over it, ends at 0 (R22). -/
def Frame.checkCorrect (f : Frame) : Bool := crc (checkedBytes f.cls f.serial f.fields ++ [f.check]) == 0

/-! ### Cells (R4) and the frame as a sender makes it (R6) -/

/-- A cell: whether each of its halves is judged sink. -/
abbrev Cell := Bool × Bool

/-- The bits of a bit vector, most significant first. -/
def bitsOf {w : Nat} (x : BitVec w) : List Bool := (List.range w).map fun k => x.getMsbD k

/-- A whole-cell coded bit: both halves sink for 1, neither for 0. -/
def wholeCell (b : Bool) : Cell := (b, b)

/-- A split-phase coded bit: sink in the first half for 1, in the second half for 0. -/
def splitCell (b : Bool) : Cell := (b, !b)

/-- START and the contention field: CLASS then SERIAL (R6). -/
def contentionBits (cls : BitVec 3) (serial : Serial) : List Bool := true :: (bitsOf cls ++ bitsOf serial)

/-- The payload bytes: LENGTH, the fields, CHECK (R6). -/
def payloadBytes (fields : List Byte) (check : Byte) : List Byte := u8 fields.length :: (fields ++ [check])

/-- The cells of a frame, START to CHECK (R6). -/
def frameCells (f : Frame) : List Cell :=
  (contentionBits f.cls f.serial).map wholeCell ++ ((payloadBytes f.fields f.check).flatMap bitsOf).map splitCell

/-- The half-cells of a run of cells: whether the sink is on in each. -/
def halvesOf (cells : List Cell) : List Bool := cells.flatMap fun c => [c.1, c.2]

/-- The half-cells a sender of a frame makes (R4, R6). -/
def frameHalves (f : Frame) : List Bool := halvesOf (frameCells f)

/-- The cells of a frame with LENGTH `n`, START to CHECK: 44 + 8 × (n + 2) (R6). -/
def frameCellCount (n : Nat) : Nat := 44 + 8 * (n + 2)

/-- How long a frame with LENGTH `n` takes from the leading edge of START to the end of CHECK (R6). -/
def frameTime (n : Nat) : Nat := 2 * frameCellCount n * Config.halfCell

/-- Whether the sink is on in period `k` of a tail: the second and third place of each group of four (R40). -/
def tailPeriodOn (k : Nat) : Bool := k % 4 == 1 || k % 4 == 2

/-! ### What the channels judge -/

/-- The V-channel judges sink on a dip of at least 8 mV (R2). -/
def judgeV (dip : Int) : Bool := decide (Config.dipThreshold ≤ dip)

/-- The I-channel judges sink on a change of at least 5 mA in the feed-to-far direction, or in either direction under
orientation UNKNOWN (R3). `change` is positive from side A to side B. -/
def judgeI (orientation : Orientation) (change : Int) : Bool :=
  match orientation with
  | .feedA => decide (Config.throughThreshold ≤ change)
  | .feedB => decide (change ≤ -Config.throughThreshold)
  | .unknown => decide (Config.throughThreshold ≤ change ∨ change ≤ -Config.throughThreshold)

/-- Whether the isolator was not CLOSED at moment `t` of a frame: as it stood at START, turned by every leaving or
regaining of CLOSED up to `t` (R3). -/
def RxFrame.mutedAt (f : RxFrame) (t : Nat) : Bool :=
  (f.crossings.countP fun c => decide (c ≤ t)) % 2 == (if f.mutedAtStart then 0 else 1)

/-- The middle of half-cell `k` of a frame, where it is judged (R2). -/
def RxFrame.halfMiddle (f : RxFrame) (k : Nat) : Nat := f.startedAt + Config.halfCell * k + Config.halfCell / 2

/-- The half-cells of a frame as the V-channel judges them. -/
def heardOnV (h : Heard) : List Bool := h.dips.map judgeV

/-- Half-cells from number `k` of a frame as the I-channel judges them: no sink while the isolator is not CLOSED (R3). -/
def halvesOnI (f : RxFrame) : Nat → List Int → List Bool
  | _, [] => []
  | k, c :: cs => (!f.mutedAt (f.halfMiddle k) && judgeI f.orientation c) :: halvesOnI f (k + 1) cs

/-- The half-cells of a frame as the I-channel judges them. -/
def heardOnI (f : RxFrame) (h : Heard) : List Bool := halvesOnI f 0 h.through

/-- How many half-cells there are up to the last that is sink. -/
def sinkHalves (halves : List Bool) : Nat := (halves.reverse.dropWhile fun b => !b).length

/-- The last moment at which the V-channel is known to have judged sink in a frame: the middle of its last half heard as
sink, or its START edge (R2, R5). -/
def RxFrame.lastSink (f : RxFrame) (h : Heard) : Nat :=
  match sinkHalves (heardOnV h) with
  | 0 => f.startedAt
  | n + 1 => f.halfMiddle n

/-! ### Decoding one channel (R14) -/

/-- The result of a frame on one channel (R14). `silent` is the manual's NONE. -/
inductive ChannelResult where
  | valid (f : Frame)
  | silent | coding | check | short | oversize | trailing
deriving DecidableEq, Repr

/-- The cells of a run of half-cells; a half left over makes no cell. -/
def cellsOf : List Bool → List Cell
  | a :: b :: rest => (a, b) :: cellsOf rest
  | _ => []

/-- What reading a run of split-phase cells gives: the bits and the cells after them, a coding error, or too few cells. -/
inductive BitRead where
  | bits (value : List Bool) (rest : List Cell)
  | coding
  | short
deriving DecidableEq, Repr

/-- Read `n` split-phase cells, stopping at the first error (R4, R14). -/
def readBits : Nat → List Cell → BitRead
  | 0, cells => .bits [] cells
  | _ + 1, [] => .short
  | n + 1, (a, b) :: cells =>
    if a = b then .coding
    else match readBits n cells with
      | .bits bs rest => .bits (a :: bs) rest
      | .coding => .coding
      | .short => .short

/-- The number that bits spell, most significant first. -/
def bitsToNat (bs : List Bool) : Nat := bs.foldl (fun acc b => 2 * acc + b.toNat) 0

/-- `n` bytes from a run of 8 × n bits. -/
def bytesOfBits : Nat → List Bool → List Byte
  | 0, _ => []
  | n + 1, bs => BitVec.ofNat 8 (bitsToNat (bs.take 8)) :: bytesOfBits n (bs.drop 8)

/-- Whether a frame announces a sounding tail: class PRESENCE with SOUND_FOLLOWS set (R16). -/
def Frame.announcesTail (f : Frame) : Bool := f.cls == 2 && decide (15 ≤ f.fields.length) && fieldBit f.fields 14 2

/-- The result once the payload has been read whole: CHECK, then for a frame that announces no tail TRAILING, judged on the
half-cells the V-channel heard after the CHECK cell (R14). -/
def finishDecode (f : Frame) (heardV : List Bool) : ChannelResult :=
  if f.checkCorrect = false then .check
  else if f.announcesTail = false ∧ (heardV.drop (2 * frameCellCount f.fields.length)).any id = true then .trailing
  else .valid f

/-- Decode the payload cells of a frame whose contention field gave `cls` and `serial` (R6, R14). -/
def decodePayload (cls : BitVec 3) (serial : Serial) (cells : List Cell) (heardV : List Bool) : ChannelResult :=
  match readBits 8 cells with
  | .coding => .coding
  | .short => .short
  | .bits lengthBits rest =>
    let length := bitsToNat lengthBits
    if Config.maxLength < length then .oversize
    else match readBits (8 * (length + 1)) rest with
      | .coding => .coding
      | .short => .short
      | .bits body _ =>
        finishDecode ⟨cls, serial, bytesOfBits length body, BitVec.ofNat 8 (bitsToNat (body.drop (8 * length)))⟩ heardV

/-- How many half-cells the payload of a frame has, LENGTH to CHECK, by the LENGTH that the V-channel reads; where it
reads none, all that were heard count as payload (R6, R14, log 10). -/
def payloadHalves (heardV : List Bool) : Nat :=
  match readBits 8 (cellsOf (heardV.drop Config.contentionHalves)) with
  | .bits lengthBits _ => 16 * (bitsToNat lengthBits + 2)
  | .coding => heardV.length
  | .short => heardV.length

/-- A channel that judged no sink in any payload cell (R14). -/
def payloadSilent (heard heardV : List Bool) : Bool :=
  ((heard.drop Config.contentionHalves).take (payloadHalves heardV)).all fun b => !b

/-- The result of one channel on a frame (R14): `heard` are its own half-cells, `heardV` those of the V-channel. A payload
without any sink is NONE whatever the contention field held; a START cell that is not dominant is a coding error (log 10);
a cell of the contention field is dominant if its first half is sink (R4). -/
def decodeChannel (heard heardV : List Bool) : ChannelResult :=
  if payloadSilent heard heardV = true then .silent
  else match cellsOf heard with
    | [] => .short
    | start :: cells =>
      if start ≠ (true, true) then .coding
      else
        let bits := (cells.take 43).map Prod.fst
        decodePayload (BitVec.ofNat 3 (bitsToNat (bits.take 3))) (BitVec.ofNat 40 (bitsToNat (bits.drop 3)))
          (cells.drop 43) heardV

/-! ### The samples of a tail (R42, R43) -/

/-- A deviation as the sampler writes it: the nearer extreme where the code range cannot show it. -/
def toSample (x : Int) : Int := max Config.sampleLow (min Config.sampleHigh x)

/-- A sample that shows an extreme of the range. -/
def clippedSample (x : Int) : Bool := x == Config.sampleLow || x == Config.sampleHigh

/-- The 64 V samples: node voltage less the V reference. -/
def vSamples (r : TailReadings) : List Int := r.v.toList.map fun x => toSample (x - r.vReference)

/-- The 64 I samples: through-current less the I reference, positive in the feed-to-far direction of the noted orientation,
in the A-to-B direction under UNKNOWN (R43). -/
def iSamples (noted : Orientation) (r : TailReadings) : List Int :=
  r.i.toList.map fun x => toSample (match noted with
    | .feedB => r.iReference - x
    | .feedA => x - r.iReference
    | .unknown => x - r.iReference)

/-! ### The fields of an IR word (11, "IR words") -/

/-- The site code: bits 31..16. -/
def irSite (w : IrWord) : Site := w.extractLsb' 16 16
/-- The toggle: bit 15. -/
def irToggle (w : IrWord) : Bool := w.getLsbD 15
/-- The key code: bits 14..8. -/
def irKey (w : IrWord) : Nat := (w.extractLsb' 8 7).toNat
/-- The check must be the complement of the exclusive-or of the site's bytes and the byte of toggle and key (R177). -/
def irCheckOk (w : IrWord) : Bool :=
  w.extractLsb' 0 8 == ~~~(w.extractLsb' 24 8 ^^^ w.extractLsb' 16 8 ^^^ w.extractLsb' 8 8)

/-- The check byte of a settings record: the complement of the exclusive-or of the site's bytes and the address (R182). -/
def recordCheck (site : Site) (address : Byte) : Byte := ~~~(site.extractLsb' 8 8 ^^^ site.extractLsb' 0 8 ^^^ address)

/-- A count that stops at its largest value (00, "Counts"). -/
def countUp (top n : Nat) : Nat := if n < top then n + 1 else n

end Sys2Proof.Machine
end

