-- ==== Sys2Proof/Machine/Relations.lean ====
section
/-! DEFINITION. The relation classifier (05): the tolerance, the relation of an entry from the figures then standing, the
loop picture derived from the LIVE entries, and the value of an orientation reading. -/

namespace Sys2Proof.Machine

/-- The tolerance T for own depth `d` and announced depth `dk`: 5 + (max(D, D_k) div 100) (R89). -/
def tolerance (d dk : Nat) : Int := 5 + (max d dk / 100 : Nat)

/-- The relation of an entry with all four figures present and SENSE_FAULT clear (R91, R92). -/
def relationOfFigures (d dk s phi : Nat) : Relation :=
  let t := tolerance d dk
  if 250 < phi ∧ phi < 750 then .split
  else if 750 ≤ phi then
    if (d : Int) - t ≤ s ∧ (s : Int) ≤ d + t ∧ (d : Int) - t ≤ dk then .downstream else .inconsistent
  else if (s : Int) < (min d dk : Nat) - t then .branched
  else if (s : Int) - dk ≤ t ∧ (dk : Int) - s ≤ t ∧ (dk : Int) ≤ d + t then .upstream
  else .inconsistent

/-- The relation of an entry under SENSE_FAULT and the own depth as they stand (R90 to R92). -/
def relationOf (senseFault : Bool) (ownDepth : Option Nat) (e : Entry) : Relation :=
  match senseFault, ownDepth, e.depth, e.shared, e.through with
  | false, some d, some dk, some s, some phi => relationOfFigures d dk s phi
  | _, _, _, _, _ => .unmeasured

/-- A LIVE entry of relation `r`. -/
def Entry.liveAs (r : Relation) (e : Entry) : Bool := decide (e.state = .live ∧ e.relation = r)

/-- A LIVE entry that shows a finding: BRANCHED, SPLIT or INCONSISTENT (R103, R104). -/
def Entry.showsFinding (e : Entry) : Bool := e.liveAs .branched || e.liveAs .split || e.liveAs .inconsistent

/-- The live count (R64). -/
def Roster.liveCount (r : Roster) : Nat := r.entries.countP fun e => decide (e.state = .live)

/-- The stale count (R64). -/
def Roster.staleCount (r : Roster) : Nat := r.entries.countP fun e => decide (e.state = .stale)

/-- The number of LIVE entries of one relation (R102). -/
def Roster.liveOf (r : Roster) (rel : Relation) : Nat := r.entries.countP (Entry.liveAs rel)

/-- The loop picture (05, table before R102). -/
structure LoopPicture where
  rank : Nat
  downstream : Nat
  branched : Nat
  split : Nat
  inconsistent : Nat
  unmeasured : Nat
  branchSeen : Bool
  doubleFeedSeen : Bool
  inconsistentSeen : Bool
  firstFinding : Option Serial
  endCandidate : Bool
deriving DecidableEq, Repr

/-- The loop picture that the roster and the orientation give (R102 to R106). -/
def pictureOf (r : Roster) (orientation : Orientation) : LoopPicture where
  rank := r.liveOf .upstream
  downstream := r.liveOf .downstream
  branched := r.liveOf .branched
  split := r.liveOf .split
  inconsistent := r.liveOf .inconsistent
  unmeasured := r.liveOf .unmeasured
  branchSeen := r.entries.any (Entry.liveAs .branched)
  doubleFeedSeen := r.entries.any (Entry.liveAs .split)
  inconsistentSeen := r.entries.any (Entry.liveAs .inconsistent)
  firstFinding := (r.entries.find? Entry.showsFinding).map Entry.serial
  endCandidate := decide (orientation = .unknown) && !r.entries.any (Entry.liveAs .downstream)

/-- The station's loop picture (R106). -/
def State.loopPicture (s : State) : LoopPicture := pictureOf s.roster s.port.orientation

/-- The orientation value of a reading (R98). -/
def readingValue (reading : Int) : Orientation :=
  if reading.natAbs < Config.directionSteps then .unknown
  else if 0 < reading then .feedA else .feedB

/-- A change between FEED_A and FEED_B is a flip (R101). -/
def isFlip (before after : Orientation) : Bool :=
  match before, after with
  | .feedA, .feedB => true
  | .feedB, .feedA => true
  | _, _ => false

end Sys2Proof.Machine
end

