-- ==== Sys2Proof/Machine/Flags.lean ====
section
/-! DEFINITION. The codes of named values (R27) and the packed bytes (R28) as the station sends them, each taken from its
owners as they stand, and the derived conditions those bytes show (ISOLATING R168, LOW_SUPPLY R170). -/

namespace Sys2Proof.Machine

/-! ### Codes (R27) -/

def Orientation.code : Orientation → Nat
  | .unknown => 0 | .feedA => 1 | .feedB => 2

def RestartCause.code : RestartCause → Nat
  | .powerOn => 0 | .brownout => 1 | .irRestart => 2

def HeadState.code : HeadState → Nat
  | .noHead => 0 | .settling => 1 | .ready => 2 | .confirming => 3
  | .resetting => 4 | .recovering => 5 | .stuck => 6 | .fault => 7

def TestState.code : TestState → Nat
  | .notTested => 0 | .passed => 1 | .stuck => 2

def TestKind.code : TestKind → Nat
  | .pass => 0 | .repeatPass => 1 | .stuck => 2

def HeadType.code : HeadType → Nat
  | .optical => 1 | .heatFixed => 2 | .heatRise => 3 | .multi => 4

def EntryState.code : EntryState → Nat
  | .live => 0 | .stale => 1

def Via.code : Via → Nat
  | .v => 1 | .i => 2 | .both => 3

def Relation.code : Relation → Nat
  | .unmeasured => 0 | .upstream => 1 | .downstream => 2 | .branched => 3 | .split => 4 | .inconsistent => 5

def IsolatorState.code : IsolatorState → Nat
  | .closed => 0 | .openWait => 1 | .trial => 2 | .latched => 3

/-- NORMAL 0, LOW 1; CRITICAL is never reported (R169). -/
def Band.code : Band → Nat
  | .normal => 0 | .low => 1 | .critical => 1

def DamageKind.code : DamageKind → Nat
  | .noDamage => 0 | .mismatch => 1 | .iDamaged => 2 | .vCoding => 3 | .vCheck => 4 | .length => 5 | .malformed => 6

def RejectionKind.code : RejectionKind → Nat
  | .noRejection => 0 | .truncated => 1 | .lowSupply => 2 | .clipped => 3 | .disturbed => 4 | .noDip => 5

def JournalSource.code : JournalSource → Nat
  | .own => 0 | .peer => 1

/-- The class code of a message a station sends (R24). -/
def OutKind.cls : OutKind → BitVec 3
  | .test => 6 | .reply => 5 | .presence => 2

/-! ### Derived conditions -/

/-- ISOLATING: the isolator is not CLOSED (R168). -/
def State.isolating (s : State) : Bool := decide (s.isolator.state ≠ .closed)

/-- LOW_SUPPLY: the band is LOW (R170). -/
def State.lowSupply (s : State) : Bool := decide (s.supply.band = .low)

/-- CONFLICT is shown (R80, R81). -/
def State.conflictShown (s : State) : Bool := s.roster.conflict.isSome

/-- A PRESENCE started now would carry a tail: band NORMAL and the lockout clear (R39). -/
def State.tailWouldFollow (s : State) : Bool := decide (s.supply.band = .normal) && !s.retained.lockout

/-- The isolator switch is driven open in OPEN_WAIT and LATCHED, by a chip that runs (R162). -/
def State.switchOpen (s : State) : Bool :=
  decide (s.supply.phase = .running ∧ (s.isolator.state = .openWait ∨ s.isolator.state = .latched))

/-! ### Packed bytes (R28) -/

/-- A byte of eight flags, bit 7 first. -/
def packFlags (b7 b6 b5 b4 b3 b2 b1 b0 : Bool) : Byte :=
  u8 (128 * b7.toNat + 64 * b6.toNat + 32 * b5.toNat + 16 * b4.toNat
    + 8 * b3.toNat + 4 * b2.toNat + 2 * b1.toNat + b0.toNat)

/-- The state byte: restart cause in bits 3..2, orientation in bits 1..0. -/
def State.stateByte (s : State) : Byte := u8 (4 * s.supply.cause.code + s.port.orientation.code)

/-- A head byte: test state in bits 4..3, head state in bits 2..0. -/
def headByteOf (h : HeadState) (t : TestState) : Byte := u8 (8 * t.code + h.code)

/-- The station's own head byte. -/
def State.headByte (s : State) : Byte := headByteOf s.head.state s.head.record.state

/-- The flag byte (R28, R29). The same byte is captured for a REPLY (R34); there SOUND_FOLLOWS shows what R39 would decide
at that moment (log 12). -/
def State.flagByte (s : State) : Byte :=
  packFlags s.conflictShown s.isolating s.lowSupply s.supply.selftestFail
    s.sounding.senseFault s.tailWouldFollow s.loopPicture.endCandidate s.settings.recovered

/-- The findings byte: INCONSISTENT_SEEN, DOUBLE_FEED_SEEN, BRANCH_SEEN in bits 2..0. -/
def LoopPicture.findingsByte (p : LoopPicture) : Byte :=
  packFlags false false false false false p.inconsistentSeen p.doubleFeedSeen p.branchSeen

/-- The station byte: SERIAL_CLASH in bit 1, ROSTER_FULL in bit 0. -/
def State.stationByte (s : State) : Byte :=
  packFlags false false false false false false s.roster.clash s.roster.full

/-- The IR flags byte: IR_OVERFLOW, IR_SITE_MISMATCH, IR_CHECK_ERROR in bits 2..0. -/
def State.irFlagsByte (s : State) : Byte :=
  packFlags false false false false false s.ir.overflow s.ir.siteMismatch s.ir.checkError

/-- The journal byte: WRAPPED in bit 7, the count in bits 6..0. -/
def State.journalByte (s : State) : Byte := u8 (128 * s.journal.wrapped.toNat + s.journal.entries.length)

/-- The entry byte: heard-via in bits 2..1, entry state in bit 0. -/
def Entry.entryByte (e : Entry) : Byte := u8 (2 * e.via.code + e.state.code)

end Sys2Proof.Machine
end

