-- ==== Sys2Proof/Machine/Ops.lean ====
section
/-! DEFINITION. The operations that several blocks share: the time base and the timers, the indicator's choice of pattern
(R185 to R187), the sender's slots (R7), and the presence scheduler's requests, marks and quiet (R114 to R121). -/

namespace Sys2Proof.Machine

/-- What a command answers. -/
abbrev Result := Host.Outcome State Fault Refusal

/-! ### Time base, phases, timers -/

/-- The time base stands at `t` or later (log 2). -/
def State.advance (s : State) (t : Nat) : State := { s with now := max s.now t }

/-- The station has entered RUNNING (R173, R175). -/
abbrev State.Running (s : State) : Prop := s.supply.phase = .running

/-- What happens only in a station that runs: before RUNNING nothing is heard, read or taken (R19, R142, R173). -/
def whenRunning (f : State → State) (s : State) : State := if s.Running then f s else s

/-- The expiry of a timer: it happens at the moment the timer was running to; a stopped timer does not expire (log 28). -/
def onExpiry (timer : Timer) (f : State → State) (s : State) : State :=
  match timer with
  | none => s
  | some d => f (s.advance d)

/-- A timer started now for `d`. -/
def State.timerFor (s : State) (d : Nat) : Timer := some (s.now + d)

/-! ### The indicator (R185 to R187) -/

/-- The pattern of a feedback (R187). -/
def FeedbackKind.pattern : FeedbackKind → Pattern
  | .acknowledge => .acknowledge
  | .error => .error

/-- The length of a feedback (R185). -/
def FeedbackKind.length : FeedbackKind → Nat
  | .acknowledge => Config.acknowledgeTime
  | .error => Config.errorTime

/-- The pattern of the first condition present (R186); a chip held in reset drives nothing (log 22). -/
def State.firstCondition (s : State) : Pattern :=
  if s.supply.phase = .held then .dark
  else if s.retained.lockout = true then .lockout
  else if s.indicator.identify.isSome = true then .identify
  else match s.indicator.feedback with
    | some f => f.kind.pattern
    | none =>
      if s.ir.mode = .entering then .entering
      else if s.head.state = .stuck then .stuck
      else if s.conflictShown = true then .conflict
      else if s.head.testedLatch.isSome = true then .tested
      else if s.settings.address = 0 then .unaddressed
      else .normal

/-- The indicator follows the first condition: a new pattern begins from its start at that moment, a pattern whose
condition stays first runs on (R186). -/
def State.refreshIndicator (s : State) : State :=
  if s.firstCondition = s.indicator.shown then s
  else { s with indicator := { s.indicator with shown := s.firstCondition, since := s.now } }

/-- The end of every command: the next state, with the indicator showing the first condition present. -/
def done (s : State) : Result := .next s.refreshIndicator

/-- An IR feedback is given: its timer starts for the length of its pattern, replacing one that runs; where the same
pattern is being shown it begins again (R185). -/
def giveFeedback (k : FeedbackKind) (s : State) : State :=
  { s with indicator := { s.indicator with
      feedback := some { kind := k, endsAt := s.now + k.length }
      since := if s.indicator.shown = k.pattern then s.now else s.indicator.since } }

/-- Whether the LED is lit `e` microseconds after a pattern began (R187). -/
def Pattern.litAt (p : Pattern) (e : Nat) : Bool :=
  let within (cycle : Nat) : Nat := e / 1000 % cycle
  match p with
  | .dark => false
  | .lockout => decide (within 1000 < 100) || decide (200 ≤ within 1000 ∧ within 1000 < 300)
  | .identify => decide (within 200 < 100)
  | .acknowledge => decide (e < Config.acknowledgeTime) && decide (within 200 < 100)
  | .error => decide (e < Config.errorTime)
  | .entering => true
  | .stuck => decide (within 3000 < 250) || decide (500 ≤ within 3000 ∧ within 3000 < 750)
  | .conflict => decide (within 2000 < 100) || decide (300 ≤ within 2000 ∧ within 2000 < 400)
  | .tested => true
  | .unaddressed => decide (within 4000 < 100)
  | .normal => decide (within 10000 < 100)

/-- The LED output now. -/
def State.ledLit (s : State) : Bool := s.indicator.shown.litAt (s.now - s.indicator.since)

/-! ### The slots (R7) -/

/-- The slot of a kind. -/
def LineSender.slot (x : LineSender) : OutKind → Slot
  | .test => x.test
  | .reply => x.reply
  | .presence => x.presence

/-- The sender with the slot of a kind replaced. -/
def LineSender.setSlot (x : LineSender) (k : OutKind) (v : Slot) : LineSender :=
  match k with
  | .test => { x with test := v }
  | .reply => { x with reply := v }
  | .presence => { x with presence := v }

/-- The state with the slot of a kind replaced. -/
def State.setSlot (s : State) (k : OutKind) (v : Slot) : State := { s with sender := s.sender.setSlot k v }

/-- The message of a kind is on the line: from its START cell until its CHECK cell ends or it is lost, aborted or cut
(R7). -/
def State.onLine (s : State) (k : OutKind) : Bool := s.sender.outgoing.any fun o => decide (o.kind = k)

/-- A PRESENCE waits in its slot: filled and not on the line. -/
def State.presenceWaits (s : State) : Bool := s.sender.presence.filled && !s.onLine .presence

/-- A fill request (R7): refused under the sink lockout, fills an empty slot, leaves a waiting message, and sets the refill
mark of a message on the line. -/
def fillSlot (k : OutKind) (s : State) : State :=
  if s.retained.lockout = true then s
  else if (s.sender.slot k).filled = false then s.setSlot k { filled := true }
  else if s.onLine k = true then s.setSlot k { s.sender.slot k with refill := true }
  else s

/-! ### Requests for a PRESENCE and quiet (R115 to R121) -/

/-- Quiet holds while quiet-until is set (R110). -/
def State.quietHolds (s : State) : Bool := s.sched.quietUntil.isSome

/-- Mark a presence as owed (R120). -/
def defer (s : State) : State := { s with sched := { s.sched with deferred := true } }

/-- While quiet holds, a PRESENCE that waits without the exempt mark is withdrawn and owed (R7, R120). -/
def holdBack (s : State) : State :=
  if s.quietHolds = true ∧ s.presenceWaits = true ∧ s.sched.exempt = false then defer (s.setSlot .presence {}) else s

/-- A routine request (R115, R120): a fill request without quiet; under quiet nothing beside a waiting PRESENCE, and
otherwise a presence owed. -/
def routineRequest (s : State) : State :=
  if s.quietHolds = true then (if s.presenceWaits = true then s else defer s)
  else fillSlot .presence s

/-- An exempt request (R115, R117): it sets the exempt-refill mark beside a PRESENCE on the line and the exempt mark
otherwise, and is a fill request under quiet too. Under the lockout it is refused and has no further effect (R123, log
14). -/
def exemptRequest (s : State) : State :=
  if s.retained.lockout = true then s
  else if s.onLine .presence = true then
    fillSlot .presence { s with sched := { s.sched with exemptRefill := true } }
  else fillSlot .presence { s with sched := { s.sched with exempt := true } }

/-- The presence timer is started for the current interval plus the offset (R114). -/
def startPresenceTimer (s : State) : State :=
  { s with sched := { s.sched with timer := s.timerFor (seconds s.sched.interval + s.sched.offset) } }

/-- The owner of a slot hears that its message has been sent or discarded: the presence timer and marks (R114, R117), the
reply record (R160); the head supervisor takes no action (R139). -/
def tellOwner (k : OutKind) (s : State) : State :=
  match k with
  | .test => s
  | .reply => { s with reply := { s.reply with record := none } }
  | .presence =>
    startPresenceTimer
      { s with sched := { s.sched with exempt := s.sched.exemptRefill, exemptRefill := false } }

/-- A message on the line ends by being sent or discarded (R7, R11): the slot empties, the owner is told, a set refill mark
fills the slot again, and quiet may hold the refill back (R120). The line no longer carries the message. -/
def messageEnded (k : OutKind) (s : State) : State :=
  let told := tellOwner k (s.setSlot k {})
  let refilled := if (s.sender.slot k).refill = true then fillSlot k told else told
  match k with
  | .presence => holdBack refilled
  | .test => refilled
  | .reply => refilled

/-- A message ends by loss, or by an abort below the limit with the count now `aborts` (R7, R8, R10, R117): the slot stays
filled, its refill mark is cleared, and quiet may hold the PRESENCE back. -/
def messageRetried (k : OutKind) (aborts : Nat) (s : State) : State :=
  let kept := s.setSlot k { s.sender.slot k with aborts := aborts, refill := false }
  match k with
  | .presence =>
    holdBack { kept with sched := { kept.sched with
      exempt := kept.sched.exempt || kept.sched.exemptRefill, exemptRefill := false } }
  | .test => kept
  | .reply => kept

/-- Quiet ends (R121): with a presence owed, the timer starts for the offset alone; an offset of 0 makes the request at
once. -/
def endQuiet (s : State) : State :=
  let ended := { s with sched := { s.sched with quietUntil := none } }
  if s.sched.deferred = true then
    if s.sched.offset = 0 then
      routineRequest { ended with sched := { ended.sched with deferred := false, timer := none } }
    else { ended with sched := { ended.sched with deferred := false, timer := s.timerFor s.sched.offset } }
  else ended

/-- A QUIET is delivered with its duration in seconds (R119, R120). -/
def takeQuiet (duration : Nat) (s : State) : State :=
  if duration = 0 then (if s.quietHolds = true then endQuiet s else s)
  else holdBack { s with sched := { s.sched with
    quietUntil := s.timerFor (seconds (min duration Config.quietTop)) } }

end Sys2Proof.Machine
end

