-- ==== Sys2Proof/Machine/Journal.lean ====
section
/-! DEFINITION. Writing the test journal (08): an entry is appended; into a full journal the oldest gives up its place and
WRAPPED is set (R143, R147). -/

namespace Sys2Proof.Machine

/-- A journal with one more entry (R147). -/
def Journal.write (j : Journal) (e : JournalEntry) : Journal :=
  if Config.journalCapacity ≤ j.entries.length then
    { entries := j.entries.drop 1 ++ [e], wrapped := true }
  else { j with entries := j.entries ++ [e] }

/-- An entry is written into the station's journal. -/
def writeJournal (e : JournalEntry) (s : State) : State := { s with journal := s.journal.write e }

/-- The own entry of a test event (R144); the type tested is that of the event (log 45). -/
def ownEntry (s : State) (e : TestEvent) : JournalEntry where
  heardAt := s.supply.uptime
  serial := s.settings.serial
  address := s.settings.address
  kind := e.kind
  number := e.number
  typeTested := e.type
  source := .own

/-- The peer entry of a TEST delivered now (R145), with the number and the type tested that the journal keeps of it (R69,
log 45). -/
def peerEntry (s : State) (sender : Serial) (address : Nat) (kind : TestKind) (number : Nat) (typeTested : HeadType) :
    JournalEntry where
  heardAt := s.supply.uptime
  serial := sender
  address := address
  kind := kind
  number := number
  typeTested := typeTested
  source := .peer

end Sys2Proof.Machine
end

