-- ==== Sys2Proof/Machine/Head.lean ====
section
/-! DEFINITION. Head supervision and the walk test (07): identity readings, the head state machine, confirmation, reset cycles,
STUCK, the test record, and the commands ALARM_ASSERTED, ALARM_RELEASED, SETTLING_END, CONFIRMED_ALARM, RESETTING_END,
RECOVERING_END, TESTED_LATCH_EXPIRY. -/

namespace Sys2Proof.Machine

/-- The state with another head record. -/
def State.withHead (s : State) (h : Head) : State := { s with head := h }

/-- An event of the head supervisor: a change of head state or of test state makes one routine request (R141). -/
def headEvent (f : State → State) (s : State) : State :=
  let s' := f s
  if s'.head.state = s.head.state ∧ s'.head.record.state = s.head.record.state then s' else routineRequest s'

/-! ### Identity (R126 to R128, R136, R137) -/

/-- The identity value of a code (R126). -/
def identityValue (code : Nat) : Identity :=
  if code ≤ 39 then .fault
  else if code ≤ 199 then .head .optical
  else if code ≤ 399 then .head .heatFixed
  else if code ≤ 599 then .head .heatRise
  else if code ≤ 799 then .head .multi
  else if code ≤ 959 then .fault
  else .noHead

/-- The test record when a head of `type` is fitted: kept for the type tested, else NOT_TESTED (R138). -/
def recordOnFitting (r : TestRecord) (type : HeadType) : TestRecord :=
  if r.state ≠ .notTested ∧ r.type = some type then r else {}

/-- The head has its supply from now on, if it had none before (R124); its line begins clear (R125). -/
def Head.supplied (h : Head) (now : Nat) : Head :=
  { h with supply := true, alarmFrom := if h.supply = true then h.alarmFrom else now }

/-- A head is newly fitted: SETTLING for 30 s, from whatever state (R128). -/
def fitHead (type : HeadType) (s : State) : State :=
  s.withHead { s.head.supplied s.now with
    headType := some type
    cycles := 0
    state := .settling
    timer := s.timerFor Config.settlingTime
    record := recordOnFitting s.head.record type }

/-- The head has been removed, or its identity is out of every band: no timer runs, and the record is kept (R136, R137). -/
def loseHead (state : HeadState) (s : State) : State :=
  s.withHead { s.head.supplied s.now with headType := none, cycles := 0, state := state, timer := none }

/-- The identity becomes `value` (R127). -/
def changeIdentity (value : Identity) (s : State) : State :=
  let changed := s.withHead { s.head with identity := value }
  match value with
  | .head type => fitHead type changed
  | .noHead => loseHead .noHead changed
  | .fault => loseHead .fault changed

/-- An identity reading (R127): two consecutive readings of a new value change the identity. -/
def readIdentity (code : Nat) (s : State) : State :=
  let value := identityValue code
  let moved := if value ≠ s.head.identity ∧ s.head.previous = some value then changeIdentity value s else s
  moved.withHead { moved.head with previous := some value }

/-! ### The head state machine (R129 to R135) -/

/-- An alarm begins to be confirmed (R130). -/
def beginConfirm (s : State) : State :=
  s.withHead { s.head with state := .confirming, timer := s.timerFor Config.confirmTime }

/-- READY is entered: an alarm line asserted at that moment begins CONFIRMING at once (R130). -/
def enterReady (s : State) : State :=
  if s.head.alarm = true then beginConfirm s
  else s.withHead { s.head with state := .ready, timer := none }

/-- A reset cycle begins: the head supply goes off, so the head cannot pull its line (R125, R132, R134, log 18). -/
def beginReset (cycles : Nat) (s : State) : State :=
  s.withHead { s.head with
    supply := false
    alarm := false
    cycles := cycles
    state := .resetting
    timer := s.timerFor Config.resetTime }

/-- The test record after a confirmed alarm (R138). -/
def recordOnConfirm (r : TestRecord) (type : Option HeadType) : TestRecord where
  state := .passed
  number := match r.state with
    | .notTested => some 1
    | .passed => r.number.map (countUp Config.testNumberTop)
    | .stuck => r.number.map (countUp Config.testNumberTop)
  type := type

/-- The kind of a confirmed alarm's event (R138). -/
def confirmKind (r : TestRecord) : TestKind :=
  match r.state with
  | .notTested => .pass
  | .passed => .repeatPass
  | .stuck => .repeatPass

/-- The last test event written from the record as it stands, if the record holds a number and a type (R139). -/
def eventOf (kind : TestKind) (r : TestRecord) (uptime : Nat) : Option TestEvent :=
  match r.number, r.type with
  | some number, some type => some { kind := kind, number := number, type := type, uptime := uptime }
  | _, _ => none

/-- A confirmation or stuck declaration is announced: the last test event is written, an own journal entry, and a fill
request to the TEST slot (R132, R135, R139, R144). -/
def announce (kind : TestKind) (s : State) : State :=
  match eventOf kind s.head.record s.supply.uptime with
  | none => s
  | some e => fillSlot .test (writeJournal (ownEntry s e) (s.withHead { s.head with lastEvent := some e }))

/-- A confirmed alarm (R132). -/
def confirmAlarm (s : State) : State :=
  let kind := confirmKind s.head.record
  let told := announce kind (s.withHead { s.head with record := recordOnConfirm s.head.record s.head.headType })
  beginReset 0 (told.withHead { told.head with testedLatch := told.timerFor Config.latchTime })

/-- The head is declared STUCK (R135). -/
def declareStuck (s : State) : State :=
  announce .stuck (s.withHead { s.head with
    cycles := Config.stuckCycles
    state := .stuck
    timer := none
    record := { s.head.record with state := .stuck } })

/-- The end of RECOVERING: READY when the line is clear, another reset cycle, or STUCK at the third (R134). -/
def endRecovering (s : State) : State :=
  if s.head.alarm = false then s.withHead { s.head with cycles := 0, state := .ready, timer := none }
  else if s.head.cycles + 1 < Config.stuckCycles then beginReset (s.head.cycles + 1) s
  else declareStuck s

/-- The end of RESETTING: the supply returns (R133). -/
def endResetting (s : State) : State :=
  s.withHead { s.head.supplied s.now with state := .recovering, timer := s.timerFor Config.recoverTime }

/-- IR CLEAR at the head supervisor: from STUCK the reset cycle begins again (R135). -/
def clearHead (s : State) : State := if s.head.state = .stuck then beginReset 0 s else s

/-! ### The commands -/

/-- The state timer of head state `state` expires. -/
def onHeadTimer (state : HeadState) (f : State → State) (s : State) : State :=
  if s.head.state = state then onExpiry s.head.timer (headEvent f) s else s

/-- The filtered alarm line can change to `level` now (R125, log 47): it stands at the other level, a head without supply
cannot pull it (log 18), and what has been pulled or released since has passed the filter of 50 ms. -/
def State.alarmTurnsTo (s : State) (level : Bool) : Bool :=
  s.head.supply && s.head.alarm != level && decide (s.head.alarmFrom + Config.alarmFilter ≤ s.now)

/-- The filtered alarm line changes to `level` now. -/
def turnAlarm (level : Bool) (s : State) : State := s.withHead { s.head with alarm := level, alarmFrom := s.now }

/-- An assertion of the alarm line (R125, R130). -/
def assertAlarm (s : State) : State :=
  if s.alarmTurnsTo true = true then
    if s.head.state = .ready then beginConfirm (turnAlarm true s) else turnAlarm true s
  else s

/-- A release of the alarm line (R125, R131). -/
def releaseAlarm (s : State) : State :=
  if s.alarmTurnsTo false = true then
    let released := turnAlarm false s
    if s.head.state = .confirming then
      released.withHead { released.head with state := .ready, timer := none }
    else released
  else s

/-- ALARM_ASSERTED. -/
def execAlarmAsserted (t : Nat) (s : State) : Result :=
  done (whenRunning (headEvent assertAlarm) (s.advance t))

/-- ALARM_RELEASED. -/
def execAlarmReleased (t : Nat) (s : State) : Result :=
  done (whenRunning (headEvent releaseAlarm) (s.advance t))

/-- SETTLING_END (R129). -/
def execSettlingEnd (s : State) : Result := done (whenRunning (onHeadTimer .settling enterReady) s)

/-- CONFIRMED_ALARM (R131, R132): the confirm timer expires with the line asserted. -/
def execConfirmedAlarm (s : State) : Result :=
  done (whenRunning (fun s => if s.head.alarm = true then onHeadTimer .confirming confirmAlarm s else s) s)

/-- RESETTING_END (R133). -/
def execResettingEnd (s : State) : Result := done (whenRunning (onHeadTimer .resetting endResetting) s)

/-- RECOVERING_END (R134). -/
def execRecoveringEnd (s : State) : Result := done (whenRunning (onHeadTimer .recovering endRecovering) s)

/-- The tested latch runs out (R140). -/
def clearLatch (s : State) : State := s.withHead { s.head with testedLatch := none }

/-- TESTED_LATCH_EXPIRY (R140). -/
def execTestedLatchExpiry (s : State) : Result :=
  done (whenRunning (fun s => onExpiry s.head.testedLatch clearLatch s) s)

end Sys2Proof.Machine
end

