-- ==== Sys2Proof/Machine/Arithmetic.lean ====
section
/-! DEFINITION. The arithmetic of the sounding unit (R46 to R60): group dips, accumulations, the rejection checks in their
order, the survey divider and its rounding, the two samples, and the running merge. -/

namespace Sys2Proof.Machine

/-- Sample `k` of a store; 0 where there is none. -/
def sampleAt (xs : List Int) (k : Nat) : Int := xs.getD k 0

/-- The group dip of group `i`: its two off samples less its two on samples (R50). -/
def groupDip (v : List Int) (i : Nat) : Int :=
  (sampleAt v (4 * i) + sampleAt v (4 * i + 3)) - (sampleAt v (4 * i + 1) + sampleAt v (4 * i + 2))

/-- The 16 group dips (R50). -/
def groupDips (v : List Int) : List Int := (List.range 16).map (groupDip v)

/-- The V accumulation A: the sum of the group dips (R50). -/
def vAccumulation (v : List Int) : Int := (groupDips v).foldl (· + ·) 0

/-- The I accumulation C before its sign is settled: the on samples less the off samples (R54). -/
def iAccumulation (i : List Int) : Int := -(vAccumulation i)

/-- The largest less the smallest of the group dips (R50). -/
def spread (v : List Int) : Int :=
  (groupDips v).foldl max (groupDip v 0) - (groupDips v).foldl min (groupDip v 0)

/-- The allowed spread: 64 + (|A| div 64) (R50). -/
def allowedSpread (v : List Int) : Int := 64 + ((vAccumulation v).natAbs / 64 : Nat)

/-- The checks made at the end of period 63, in their order: LOW_SUPPLY, CLIPPED, DISTURBED, NO_DIP (R46, R48 to R51); none
when the observation is accepted. -/
def rejection (low : Bool) (v i : List Int) : Option RejectionKind :=
  if low = true then some .lowSupply
  else if v.any clippedSample = true ∨ i.any clippedSample = true then some .clipped
  else if allowedSpread v < spread v then some .disturbed
  else if vAccumulation v ≤ 0 then some .noDip
  else none

/-- The survey divider's quotient, rounded half-up (R52). -/
def roundedDiv (dividend divisor : Nat) : Nat :=
  dividend / divisor + (if divisor ≤ 2 * (dividend % divisor) then 1 else 0)

/-- The depth sample of a positive V accumulation: A × 3125 divided by 4 × I, rounded (R53). -/
def depthSample (a : Int) (trim : Nat) : Nat := roundedDiv (a.toNat * 3125) (4 * trim)

/-- The I accumulation as used: its magnitude when the orientation was noted UNKNOWN (R43, R54). -/
def usedC (noted : Orientation) (c : Int) : Int :=
  match noted with
  | .unknown => c.natAbs
  | .feedA => c
  | .feedB => c

/-- The through-fraction sample: C × 625 divided by 2 × I, rounded, held at 1000; 0 when C is not positive (R54). -/
def fractionSample (c : Int) (trim : Nat) : Nat :=
  if c ≤ 0 then 0 else min 1000 (roundedDiv (c.toNat * 625) (2 * trim))

/-- The running merge of a figure whose quality is `quality` with a new sample (R56, R58). -/
def merged (quality : Nat) (old : Option Nat) (x : Nat) : Nat :=
  if quality = 0 then x else (3 * old.getD x + x + 2) / 4

/-- The depth sample and fraction sample of an accepted observation with these samples (R53, R54, R58). -/
def observationFigures (o : Observation) (v i : List Int) : Nat × Nat :=
  (depthSample (vAccumulation v) o.trim, fractionSample (usedC o.noted (iAccumulation i)) o.trim)

/-- The window of the self-test (R174). -/
def inSelfTestWindow (a : Int) : Bool := decide (Config.selfTestLow ≤ a ∧ a ≤ Config.selfTestHigh)

end Sys2Proof.Machine
end

