-- ==== Sys2Proof/Machine/Messages.lean ====
section
/-! DEFINITION. From two channel results to a received message: the decision of a frame (R15), the four acceptance checks in
their order (R23 to R26), and the values handed on (R30 to R33, R37). Codes are those of R27 and R28. -/

namespace Sys2Proof.Machine

/-! ### Codes read from fields (R27) -/

/-- Head state codes (R27); the code is three bits wide, so every value names a state. -/
def headStateOfCode (n : Nat) : HeadState :=
  match n % 8 with
  | 0 => .noHead
  | 1 => .settling
  | 2 => .ready
  | 3 => .confirming
  | 4 => .resetting
  | 5 => .recovering
  | 6 => .stuck
  | _ => .fault

/-- Test state codes (R27). -/
def testStateOfCode (n : Nat) : Option TestState :=
  match n with
  | 0 => some .notTested
  | 1 => some .passed
  | 2 => some .stuck
  | _ => none

/-- Test kind codes (R27). -/
def testKindOfCode (n : Nat) : Option TestKind :=
  match n with
  | 0 => some .pass
  | 1 => some .repeatPass
  | 2 => some .stuck
  | _ => none

/-- Head type codes of valid types (R27). -/
def headTypeOfCode (n : Nat) : Option HeadType :=
  match n with
  | 1 => some .optical
  | 2 => some .heatFixed
  | 3 => some .heatRise
  | 4 => some .multi
  | _ => none

/-! ### Messages as handed to their owners -/

/-- A PRESENCE as brought into range (R30). -/
structure PresenceIn where
  address : Nat
  interval : Nat
  uptime : Nat
  trim : Nat
  depth : Option Nat
  headState : HeadState
  testState : TestState
  soundFollows : Bool
deriving DecidableEq, Repr

/-- The selector of a QUERY (R32). -/
inductive Selector where
  | serial (s : Serial)
  | address (a : Nat)
  | all
deriving DecidableEq, Repr

/-- A received message of each kind, with what its owners read of it (R30 to R33, R37, R69). -/
inductive Message where
  | presence (p : PresenceIn)
  | test (address : Nat) (kind : TestKind) (number : Nat) (typeTested : HeadType)
  | query (selector : Selector) (item : Nat) (index : Option Nat)
  | quiet (duration : Nat)
  | reply
deriving DecidableEq, Repr

/-- What the acceptance checks make of an accepted frame (R23). -/
inductive Verdict where
  | message (m : Message)
  | foreign
  | badLength
  | malformed
deriving DecidableEq, Repr

/-! ### The decision from two channels (R15) -/

/-- The outcome of R15's table. -/
inductive Decision where
  | accepted (f : Frame) (via : Via) (iDamaged : Bool)
  | damaged (kind : DamageKind)
deriving DecidableEq, Repr

/-- The damage kind of a frame lost on both channels, from its V result (R15). -/
def damageOfV : ChannelResult → DamageKind
  | .coding => .vCoding
  | .silent => .vCoding
  | .check => .vCheck
  | .short => .length
  | .oversize => .length
  | .trailing => .length
  | .valid _ => .noDamage

/-- The table of R15. -/
def decideChannels : ChannelResult → ChannelResult → Decision
  | .valid f, .silent => .accepted f .v false
  | .valid f, .valid g => if f = g then .accepted f .both false else .damaged .mismatch
  | .valid f, _ => .accepted f .v true
  | _, .valid g => .accepted g .i false
  | v, _ => .damaged (damageOfV v)

/-- The frame is accepted and announces a sounding tail: it is decided at the end of its CHECK cell, not at an idle (R16). -/
def Decision.announcesTail : Decision → Bool
  | .accepted f _ _ => f.announcesTail
  | .damaged _ => false

/-- The frame a channel has decoded that announces a tail. -/
def ChannelResult.announcing : ChannelResult → Option Frame
  | .valid f => if f.announcesTail = true then some f else none
  | _ => none

/-- The frame by which what is heard divides into frame and tail: one that the V-channel has decoded and that announces a
tail, else such a one of the I-channel (R16). -/
def tailFollows (v i : ChannelResult) : Option Frame := v.announcing.or i.announcing

/-- The decision from half-cells heard on the two channels (R14, R15). -/
def decideHalves (heardV heardI : List Bool) : Decision :=
  decideChannels (decodeChannel heardV heardV) (decodeChannel heardI heardV)

/-- The decision of a frame from what both channels heard of it (R14, R15). Where a channel has decoded a frame that
announces a tail, both results are those at the end of its CHECK cell: what follows is the tail, and changes neither of
them, also where the two frames differ and are discarded for it (R16, log 8). -/
def decideFrame (rx : RxFrame) (h : Heard) : Decision :=
  let v := heardOnV h
  let i := heardOnI rx h
  match tailFollows (decodeChannel v v) (decodeChannel i v) with
  | none => decideHalves v i
  | some f =>
    let n := 2 * frameCellCount f.fields.length
    decideHalves (v.take n) (i.take n)

/-! ### The acceptance checks (R23) -/

/-- The message kinds that class codes name (R24). -/
inductive Kind where
  | test | reply | query | quiet | presence
deriving DecidableEq, Repr

/-- Check 1: the class code names a kind (R24). -/
def kindOfClass (cls : BitVec 3) : Option Kind :=
  match cls.toNat with
  | 6 => some .test
  | 5 => some .reply
  | 4 => some .query
  | 3 => some .quiet
  | 2 => some .presence
  | _ => none

/-- The verdict of a check that needs LENGTH to be `total`; none when it passes. -/
def needLength (length total : Nat) : Option Verdict := if length = total then none else some .badLength

/-- Where the item of a QUERY lies, by its selector kind (R25). -/
def itemPlace (selectorKind : Nat) : Option Nat :=
  match selectorKind with
  | 0 => some 8
  | 1 => some 4
  | 2 => some 3
  | _ => none

/-- ENTRY and JOURNAL carry an index (R25). -/
def itemHasIndex (item : Nat) : Bool := item == 1 || item == 2

/-- Check 2 for a QUERY (R25). -/
def queryLength (fields : List Byte) : Option Verdict :=
  if fields.length < 4 then some .badLength
  else match itemPlace (fieldAt fields 2) with
    | none => some .malformed
    | some place =>
      if fields.length ≤ place then some .badLength
      else needLength fields.length (place + 1 + (itemHasIndex (fieldAt fields place)).toNat)

/-- Check 2 for an ANSWER (R25). -/
def answerLength (fields : List Byte) : Option Verdict :=
  match fieldAt fields 8 with
  | 0 =>
    if fields.length < 23 then some .badLength
    else needLength fields.length (if fieldAt fields 22 % 8 = 0 then 41 else 46)
  | 1 => needLength fields.length 30
  | 2 => needLength fields.length 22
  | 4 => needLength fields.length 9
  | _ => some .malformed

/-- Check 2 for a REPLY (R25). -/
def replyLength (fields : List Byte) : Option Verdict :=
  if fields.length < 9 then some .badLength
  else match fieldAt fields 2 with
    | 0 => answerLength fields
    | 1 => needLength fields.length (if itemHasIndex (fieldAt fields 8) = true then 12 else 11)
    | _ => some .malformed

/-- Check 2: LENGTH is one the kind allows (R25); none when it passes. -/
def lengthCheck (k : Kind) (fields : List Byte) : Option Verdict :=
  match k with
  | .presence =>
    if fields.length < 15 then some .badLength
    else needLength fields.length (if fieldBit fields 14 7 = true then 20 else 15)
  | .test => needLength fields.length 9
  | .quiet => needLength fields.length 3
  | .query => queryLength fields
  | .reply => replyLength fields

/-- The site code a frame carries: its first two field bytes (R21). -/
def frameSite (fields : List Byte) : Site := BitVec.ofNat 16 (fieldNat fields 0 2)

/-- Check 3: the site-code filter takes the frame (R26). -/
def siteTaken (stored carried : Site) : Bool := stored == 0 || carried == 0 || stored == carried

/-- An interval brought into 30..155 (R30). -/
def bringInterval (n : Nat) : Nat := max 30 (min 155 n)

/-- A trim brought into 9000..11000 (R30). -/
def bringTrim (n : Nat) : Nat := max Config.trimLow (min Config.trimHigh n)

/-- An own depth as handed on: absent over 11375 (R30). -/
def bringDepth (n : Nat) : Option Nat := if n ≤ 11375 then some n else none

/-- Check 4 and the values handed on for a PRESENCE (R30). -/
def readPresence (fields : List Byte) : Verdict :=
  match testStateOfCode (fieldAt fields 13 / 8 % 4) with
  | none => .malformed
  | some testState =>
    if Config.addressTop < fieldAt fields 2 ∨ fieldAt fields 12 % 4 = 3 ∨ fieldAt fields 12 / 4 % 4 = 3
      ∨ 15 < fieldAt fields 11 then .malformed
    else .message (.presence {
      address := fieldAt fields 2
      interval := bringInterval (fieldAt fields 3)
      uptime := fieldNat fields 4 3
      trim := bringTrim (fieldNat fields 7 2)
      depth := bringDepth (fieldNat fields 9 2)
      headState := headStateOfCode (fieldAt fields 13)
      testState := testState
      soundFollows := fieldBit fields 14 2 })

/-- Check 4 and the values handed on for a TEST (R31, R69). -/
def readTest (fields : List Byte) : Verdict :=
  match testKindOfCode (fieldAt fields 3), headTypeOfCode (fieldAt fields 4) with
  | some kind, some typeTested =>
    if Config.addressTop < fieldAt fields 2 ∨ fieldAt fields 5 = 0 then .malformed
    else .message (.test (fieldAt fields 2) kind (fieldAt fields 5) typeTested)
  | _, _ => .malformed

/-- The index of a QUERY, present for ENTRY and JOURNAL (R32). -/
def readIndex (fields : List Byte) (place : Nat) : Option Nat :=
  if itemHasIndex (fieldAt fields place) = true then some (fieldAt fields (place + 1)) else none

/-- Check 4 and the values handed on for a QUERY (R32). -/
def readQuery (fields : List Byte) : Verdict :=
  match fieldAt fields 2 with
  | 0 => .message (.query (.serial (fieldSerial fields 3)) (fieldAt fields 8) (readIndex fields 8))
  | 1 =>
    if Config.addressTop < fieldAt fields 3 then .malformed
    else .message (.query (.address (fieldAt fields 3)) (fieldAt fields 4) (readIndex fields 4))
  | _ => .message (.query .all (fieldAt fields 3) (readIndex fields 3))

/-- Check 4 for a REPLY: only a REFUSAL has fields that are examined (R37). -/
def readReply (fields : List Byte) : Verdict :=
  if fieldAt fields 2 = 0 then .message .reply
  else
    let item := fieldAt fields 8
    match fieldAt fields (if itemHasIndex item = true then 10 else 9) with
    | 0 => if itemHasIndex item = true then .message .reply else .malformed
    | 1 => if item ≤ 4 then .malformed else .message .reply
    | _ => .malformed

/-- Check 4: every field value is one the kind can carry. -/
def readFields (k : Kind) (fields : List Byte) : Verdict :=
  match k with
  | .presence => readPresence fields
  | .test => readTest fields
  | .query => readQuery fields
  | .quiet => .message (.quiet (fieldAt fields 2))
  | .reply => readReply fields

/-- The four checks of R23, in order, under the stored site code. -/
def judgeFrame (stored : Site) (f : Frame) : Verdict :=
  match kindOfClass f.cls with
  | none => .malformed
  | some k =>
    match lengthCheck k f.fields with
    | some bad => bad
    | none => if siteTaken stored (frameSite f.fields) = true then readFields k f.fields else .foreign

/-! ### The reception of a frame, whole -/

/-- The final outcome of a frame (R18). -/
inductive Reception where
  | delivered (sender : Serial) (via : Via) (iDamaged : Bool) (m : Message)
  | foreign
  | discarded (kind : DamageKind)
deriving DecidableEq, Repr

/-- The final outcome of a frame: R15, then R23 under the stored site code. -/
def receptionOf (stored : Site) (rx : RxFrame) (h : Heard) : Reception :=
  match decideFrame rx h with
  | .damaged kind => .discarded kind
  | .accepted f via iDamaged =>
    match judgeFrame stored f with
    | .message m => .delivered f.serial via iDamaged m
    | .foreign => .foreign
    | .badLength => .discarded .length
    | .malformed => .discarded .malformed

end Sys2Proof.Machine
end

