-- ==== Sys2Proof/Machine/RosterOps.lean ====
section
/-! DEFINITION. The roster's operations (04): order, refresh, newcomers, eviction and refusal, ageing and removal, address
conflict; the classifier's acts on entries (R93, R94); and what the sounding unit merges into an entry (R56). -/

namespace Sys2Proof.Machine

/-! ### Order (R66) -/

/-- Entry `a` stands before entry `b`: announced depths first and ascending, then serials (R66). -/
def Entry.before (a b : Entry) : Bool :=
  match a.depth, b.depth with
  | some x, some y => decide (x < y) || (x == y && decide (a.serial.toNat < b.serial.toNat))
  | some _, none => true
  | none, some _ => false
  | none, none => decide (a.serial.toNat < b.serial.toNat)

/-- Place an entry in the order: before the first entry it stands before. -/
def placeEntry (e : Entry) : List Entry → List Entry
  | [] => [e]
  | x :: xs => if e.before x = true then e :: x :: xs else x :: placeEntry e xs

/-- The entries without the one of a serial. -/
def dropSerial (serial : Serial) (es : List Entry) : List Entry := es.filter fun e => decide (e.serial ≠ serial)

/-- The entries with the one of `e`'s serial replaced where it stands. -/
def replaceEntry (e : Entry) (es : List Entry) : List Entry := es.map fun x => if x.serial = e.serial then e else x

/-- The entry of a serial (R64). -/
def Roster.find (r : Roster) (serial : Serial) : Option Entry := r.entries.find? fun e => decide (e.serial = serial)

/-- The state with other entries. -/
def State.withEntries (s : State) (es : List Entry) : State := { s with roster := { s.roster with entries := es } }

/-! ### Address conflict (R80 to R82) -/

/-- The conflict serial that the own address and the entries give (R80, R81). -/
def conflictOf (address : Nat) (es : List Entry) : Option Serial :=
  if address = 0 then none
  else (es.find? fun e => decide (e.state = .live ∧ e.address = address)).map Entry.serial

/-- The conflict is evaluated; a change between shown and not shown is a routine request (R80, R82). -/
def evaluateConflict (s : State) : State :=
  let c := conflictOf s.settings.address s.roster.entries
  let shown := { s with roster := { s.roster with conflict := c } }
  if c.isSome = s.roster.conflict.isSome then shown else routineRequest shown

/-! ### The classifier's acts (R93, R94) -/

/-- An entry with the relation its figures give under the own figures of `s`. -/
def classified (s : State) (e : Entry) : Entry :=
  { e with relation := relationOf s.sounding.senseFault s.sounding.ownDepth e }

/-- Every entry is reclassified (R94). -/
def reclassifyAll (s : State) : State := s.withEntries (s.roster.entries.map (classified s))

/-! ### Messages taken in (R65, R67 to R72) -/

/-- The test state that a TEST kind gives (R65). -/
def TestKind.asState : TestKind → TestState
  | .pass => .passed
  | .repeatPass => .passed
  | .stuck => .stuck

/-- The fields of a new entry before its message is applied: those of a REPLY (R65). -/
def blankEntry (sender : Serial) (via : Via) : Entry where
  serial := sender
  address := 0
  state := .live
  via := via
  age := 0
  interval := Config.unheardInterval
  depth := none
  uptime := none
  headState := .noHead
  testState := .notTested
  shared := none
  through := none
  quality := 0
  relation := .unmeasured
  restarts := 0

/-- Restarts seen after a PRESENCE announces `uptime` (R72). -/
def restartsAfter (e : Entry) (uptime : Nat) : Nat :=
  match e.uptime with
  | some old => if uptime < old then countUp Config.restartsTop e.restarts else e.restarts
  | none => e.restarts

/-- The fields a message of each kind writes into an entry (R68, R69, R70). -/
def applyMessage (m : Message) (e : Entry) : Entry :=
  match m with
  | .presence p => { e with
      address := p.address, interval := p.interval, depth := p.depth, headState := p.headState,
      testState := p.testState, restarts := restartsAfter e p.uptime, uptime := some p.uptime }
  | .test address kind _ _ => { e with address := address, testState := kind.asState }
  | .query _ _ _ => e
  | .quiet _ => e
  | .reply => e

/-- A known sender's entry after a message: age 0, LIVE, the message's heard-via and fields (R67). -/
def refreshed (via : Via) (m : Message) (e : Entry) : Entry :=
  applyMessage m { e with age := 0, state := .live, via := via }

/-- A known sender's entry is refreshed (R67): the order is established anew, and the entry reclassified, if its announced
depth changed (R66, R93); then the conflict is evaluated. -/
def refreshEntry (via : Via) (m : Message) (e : Entry) (s : State) : State :=
  let e' := refreshed via m e
  evaluateConflict (s.withEntries
    (if e'.depth = e.depth then replaceEntry e' s.roster.entries
     else placeEntry (classified s e') (dropSerial e.serial s.roster.entries)))

/-- The STALE entry to evict: greatest age, among equals the lowest serial (R77). -/
def oldestStale (es : List Entry) : Option Entry :=
  es.foldl (fun best e =>
    if e.state = .stale then
      match best with
      | none => some e
      | some b => if b.age < e.age ∨ (b.age = e.age ∧ e.serial.toNat < b.serial.toNat) then some e else best
    else best) none

/-- A newcomer is entered among `es` (R65, R66, R71): placed in the order, classified, the conflict evaluated. -/
def enterAmong (es : List Entry) (sender : Serial) (via : Via) (m : Message) (s : State) : State :=
  evaluateConflict (s.withEntries (placeEntry (classified s (applyMessage m (blankEntry sender via))) es))

/-- A newcomer (R71, R77, R78): entered while there is room, else by evicting the oldest STALE entry, else refused with
ROSTER_FULL set. -/
def takeNewcomer (sender : Serial) (via : Via) (m : Message) (s : State) : State :=
  if s.roster.entries.length < Config.rosterCapacity then enterAmong s.roster.entries sender via m s
  else match oldestStale s.roster.entries with
    | some old => enterAmong (dropSerial old.serial s.roster.entries) sender via m s
    | none => { s with roster := { s.roster with full := true } }

/-- The roster takes in a PRESENCE, TEST or REPLY from a peer (R67, R71). -/
def takeIn (sender : Serial) (via : Via) (m : Message) (s : State) : State :=
  match s.roster.find sender with
  | some e => refreshEntry via m e s
  | none => takeNewcomer sender via m s

/-! ### Ageing (R74 to R76) -/

/-- The age at which a LIVE entry becomes STALE: 2 × interval + 10 (R75). -/
def Entry.staleAt (e : Entry) : Nat := 2 * e.interval + 10

/-- The age at which an entry is removed: 8 × interval (R76). -/
def Entry.removedAt (e : Entry) : Nat := 8 * e.interval

/-- An entry whose age has reached its STALE threshold is STALE (R75). -/
def Entry.settleState (e : Entry) : Entry :=
  if e.state = .live ∧ e.staleAt ≤ e.age then { e with state := .stale } else e

/-- An entry's age is raised by a second tick (R74). -/
def Entry.aged (e : Entry) : Entry := { e with age := countUp Config.ageTop e.age }

/-- An entry whose age has not reached its removal threshold is kept (R76). -/
def Entry.kept (e : Entry) : Bool := decide (e.age < e.removedAt)

/-- The entries that remain after a removal by ageing: ROSTER_FULL is cleared when the roster held 250 and fewer remain
(R76, R78), and the conflict is evaluated. -/
def afterRemoval (es : List Entry) (s : State) : State :=
  let full := if s.roster.entries.length = Config.rosterCapacity ∧ es.length < Config.rosterCapacity then false
    else s.roster.full
  evaluateConflict { s with roster := { s.roster with entries := es, full := full } }

/-- The roster's part of a second tick: every age raised, then R75 and R76 applied to every entry (R74). -/
def ageRoster (s : State) : State :=
  afterRemoval (((s.roster.entries.map Entry.aged).map Entry.settleState).filter Entry.kept) s

/-! ### Figures (R56, R85) -/

/-- An entry with a new observation's figures merged in (R56). -/
def mergeFigures (depth fraction : Nat) (e : Entry) : Entry :=
  { e with
    shared := some (merged e.quality e.shared depth)
    through := some (merged e.quality e.through fraction)
    quality := countUp Config.qualityTop e.quality }

/-- An accepted peer observation is merged into the sender's entry, which is reclassified when S or Φ changed; without an
entry the figures are dropped (R56, R57, R93). -/
def mergePeer (sender : Serial) (depth fraction : Nat) (s : State) : State :=
  match s.roster.find sender with
  | none => s
  | some e =>
    let e' := mergeFigures depth fraction e
    s.withEntries (replaceEntry
      (if e'.shared = e.shared ∧ e'.through = e.through then e' else classified s e') s.roster.entries)

/-- An entry without figures (R85). -/
def Entry.withoutFigures (e : Entry) : Entry := { e with shared := none, through := none, quality := 0 }

end Sys2Proof.Machine
end

