-- ==== Sys2Proof/Machine/Sounding.lean ====
section
/-! DEFINITION. The sounding unit's operations (03): beginning an observation (R44), abandoning or truncating it (R44, R45,
R47), its decision (R46), the own figures and the own-sense check (R58, R59), and the orientation's change (R43, R62, R85,
R94, R101). -/

namespace Sys2Proof.Machine

/-- An observation begins (R44): not while the isolator is not CLOSED, and one at a time (R45). -/
def observe (o : Observation) (s : State) : State :=
  if s.isolator.state = .closed ∧ s.sounding.obs = none then
    { s with sounding := { s.sounding with obs := some o } }
  else s

/-- The observation of a tail whose period 0 begins at `tailFrom` (R40, R42, R43, R48). -/
def newObservation (s : State) (peer : Option Serial) (trim : Nat) (tailFrom : Nat) : Observation where
  peer := peer
  trim := trim
  noted := s.port.orientation
  low := decide (s.supply.band ≠ .normal)
  flipped := false
  tailFrom := tailFrom
  firstSample := tailFrom + Config.tailPeriod / 2
  endsAt := tailFrom + Config.tailTime

/-- The observation under way ends with no trace: abandoned (R44). -/
def dropObservation (s : State) : State := { s with sounding := { s.sounding with obs := none } }

/-- The last rejection kind (R46). -/
def reject (k : RejectionKind) (s : State) : State := { s with sounding := { s.sounding with lastRejection := k } }

/-- How many of the 64 samples of each channel have been taken: one at the centre of each period that has been reached (R40,
R42). -/
def Observation.taken (o : Observation) (now : Nat) : Nat :=
  if now < o.firstSample then 0 else min 64 ((now - o.firstSample) / Config.tailPeriod + 1)

/-- A sample store after `n` samples of a tail have been written into its places from 0 on; the later places hold what
they held (R42). -/
def overwrite (n : Nat) (samples store : List Int) : List Int := samples.take n ++ store.drop n

/-- The samples taken up to now stand in the store (R42, R45). -/
def writeSamples (r : TailReadings) (o : Observation) (s : State) : State :=
  { s with sounding := { s.sounding with
      vStore := overwrite (o.taken s.now) (vSamples r) s.sounding.vStore
      iStore := overwrite (o.taken s.now) (iSamples o.noted r) s.sounding.iStore } }

/-- The isolator leaves CLOSED: an observation under way is abandoned with no trace but the samples it has taken (R42, R44,
log 19). -/
def abandon (r : TailReadings) (s : State) : State :=
  match s.sounding.obs with
  | none => s
  | some o => dropObservation (writeSamples r o s)

/-- The line is judged idle before the end of period 63: the observation is TRUNCATED (R45, R47), the samples it has taken
standing in the store (R42, log 19). One whose station has flipped is dropped without a kind (R43, log 20). -/
def truncate (r : TailReadings) (s : State) : State :=
  match s.sounding.obs with
  | none => s
  | some o =>
    if o.endsAt ≤ s.now then s
    else if o.flipped = true then dropObservation (writeSamples r o s)
    else reject .truncated (dropObservation (writeSamples r o s))

/-- An accepted own observation (R58, R59): D and own quality are merged, SENSE_FAULT follows the own fraction, and every
entry is reclassified when D or SENSE_FAULT changed (R94). What SENSE_FAULT was is kept, for a flip at this moment (R85). -/
def mergeOwn (noted : Orientation) (depth fraction : Nat) (s : State) : State :=
  let newDepth := some (merged s.sounding.ownQuality s.sounding.ownDepth depth)
  let fault := decide (Config.senseLimit < fraction)
  let s' := { s with sounding := { s.sounding with
    ownDepth := newDepth
    ownQuality := countUp Config.qualityTop s.sounding.ownQuality
    senseFault := fault
    ownMerge := some { decidedAt := s.now, noted := noted, faultBefore := s.sounding.senseFault } } }
  if newDepth = s.sounding.ownDepth ∧ fault = s.sounding.senseFault then s' else reclassifyAll s'

/-- The figures of an accepted observation go to the sender's entry or to the own figures (R56, R58, R61). -/
def mergeObservation (o : Observation) (v i : List Int) (s : State) : State :=
  let figures := observationFigures o v i
  match o.peer with
  | some serial => mergePeer serial figures.1 figures.2 s
  | none => mergeOwn o.noted figures.1 figures.2 s

/-- The observation is decided at the end of period 63 (R42, R43, R46): the sample store holds its samples; after a flip
it is dropped; else it is rejected, or accepted and merged. -/
def decideObservation (r : TailReadings) (s : State) : State :=
  match s.sounding.obs with
  | none => s
  | some o =>
    let v := vSamples r
    let i := iSamples o.noted r
    let stored := { s with sounding := { s.sounding with obs := none, vStore := v, iStore := i } }
    if o.flipped = true then stored
    else match rejection o.low v i with
      | some k => reject k stored
      | none => mergeObservation o v i stored

/-- The observation under way when the orientation changes from `before` to `after` at `now` (R43): before its first
sample it notes the new orientation; after it, a flip away from the noted orientation marks it. A change at the very moment
of the first sample comes after the sample: DESIGN CHOICE, the manual gives no order of the two (log 43). -/
def Observation.turned (o : Observation) (now : Nat) (before after : Orientation) : Observation :=
  if now < o.firstSample then { o with noted := after }
  else if isFlip before after = true ∧ o.noted = before then { o with flipped := true }
  else o

/-- A flip clears the own depth and own quality, and S, Φ and quality of every entry, and every entry is reclassified
(R62, R85, R94). -/
def clearFigures (s : State) : State :=
  let own := { s with sounding := { s.sounding with ownDepth := none, ownQuality := 0 } }
  reclassifyAll (own.withEntries (own.roster.entries.map Entry.withoutFigures))

/-- A flip away from `before` drops an own merge that has fallen at this very moment: SENSE_FAULT is what it was before it
(R43, R59, R85, log 48). All else a merge of this moment has written is cleared with the flip. -/
def dropOwnMerge (before : Orientation) (s : State) : State :=
  match s.sounding.ownMerge with
  | none => s
  | some m =>
    if m.decidedAt = s.now ∧ m.noted = before then
      { s with sounding := { s.sounding with senseFault := m.faultBefore } }
    else s

/-- The orientation becomes `after` (R99, R101). -/
def changeOrientation (after : Orientation) (s : State) : State :=
  let before := s.port.orientation
  let turned := { s with
    port := { s.port with orientation := after, candidate := after, run := 0 }
    sounding := { s.sounding with obs := s.sounding.obs.map fun o => o.turned s.now before after } }
  if isFlip before after = true then clearFigures (dropOwnMerge before turned) else turned

/-- The run count after a reading of value `value` that differs from the orientation (R99). -/
def runAfter (p : Port) (value : Orientation) : Nat := if value = p.candidate then p.run + 1 else 1

/-- A reading's value acts on the run (R99); the third agreeing reading changes the orientation. -/
def actOnReading (value : Orientation) (s : State) : State :=
  if value = s.port.orientation then { s with port := { s.port with run := 0 } }
  else if Config.runLength ≤ runAfter s.port value then changeOrientation value s
  else { s with port := { s.port with candidate := value, run := runAfter s.port value } }

/-- The second of a reading has ended: the next reading is over the second that begins now (R98). -/
def noteReading (s : State) : State := { s with port := { s.port with readingsFrom := s.now } }

/-- A reading of the through-current is formed, once each second (R98, R99): not while the isolator is not CLOSED, nor over a
second in which it was not (R100), nor within a second of the last reading (log 16). -/
def takeReading (reading : Int) (s : State) : State :=
  if s.isolator.state ≠ .closed ∨ s.now < s.port.readingsFrom + Config.tickTime then s
  else actOnReading (readingValue reading) (noteReading s)

end Sys2Proof.Machine
end

