-- ==== Sys2Proof/Machine/Isolator.lean ====
section
/-! DEFINITION. The isolator control (10): the short criterion and the commands SHORT_CRITERION, OPEN_WAIT_EXPIRY,
TRIAL_EXPIRY, and what IR CLEAR does to it. -/

namespace Sys2Proof.Machine

/-- The voltage test with `far` as the far side and `feed` as the feed side, in mV (R163). -/
def farSideFallen (far feed : Int) : Bool := decide (far < Config.shortFarBelow ∧ Config.shortFeedAtLeast ≤ feed)

/-- The short criterion (R163), under the orientation the loop port holds. -/
def shortCriterion (orientation : Orientation) (sides : SideVoltages) (through : Int) : Bool :=
  decide (Config.shortThrough < through.natAbs) ||
    (match orientation with
      | .feedA => farSideFallen sides.b sides.a
      | .feedB => farSideFallen sides.a sides.b
      | .unknown => farSideFallen sides.a sides.b || farSideFallen sides.b sides.a)

/-- The isolator leaves or regains CLOSED at this moment: a frame under way notes it for its I-channel (R3). -/
def noteCrossing (s : State) : State :=
  { s with rx := { s.rx with
      underWay := s.rx.underWay.map fun f => { f with crossings := f.crossings ++ [s.now] } } }

/-- The isolator opens from CLOSED: OPEN_WAIT for 10 s. The orientation is held and its run count is 0, the observation under
way is abandoned, and ISOLATING makes a routine request (R44, R100, R164). -/
def openIsolator (r : TailReadings) (s : State) : State :=
  let noted := abandon r (noteCrossing s)
  routineRequest { noted with
    isolator := { noted.isolator with state := .openWait, timer := noted.timerFor Config.openWaitTime }
    port := { noted.port with run := 0 } }

/-- The criterion can have held for 1 ms within this trial: in OPEN_WAIT and LATCHED it is not judged, so that its time
begins no earlier than the trial (R163, R165, R167; DEDUCED, log 46). -/
def State.heldInTrial (s : State) : Bool :=
  s.isolator.timer.all fun e => decide (e + Config.shortHold ≤ s.now + Config.trialTime)

/-- A trial fails: the count rises, and at 3 the isolator latches open (R166). -/
def failTrial (s : State) : State :=
  let failed := s.isolator.failed + 1
  if failed < Config.latchTrials then
    { s with isolator := { state := .openWait, failed := failed, timer := s.timerFor Config.openWaitTime } }
  else { s with isolator := { state := .latched, failed := failed, timer := none } }

/-- A trial begins: the switch closes for 100 ms (R165, R167). -/
def beginTrial (failed : Nat) (s : State) : State :=
  { s with isolator := { state := .trial, failed := failed, timer := s.timerFor Config.trialTime } }

/-- A trial has passed: CLOSED with count 0, readings from the next whole second, ISOLATING cleared (R100, R166). -/
def closeIsolator (s : State) : State :=
  let noted := noteCrossing s
  routineRequest { noted with
    isolator := { state := .closed, failed := 0, timer := none }
    port := { noted.port with readingsFrom := noted.now } }

/-- The short criterion has been met for 1 ms: it is judged in CLOSED and TRIAL only (R163 to R167). -/
def meetShort (r : TailReadings) (s : State) : State :=
  match s.isolator.state with
  | .closed => openIsolator r s
  | .trial => if s.heldInTrial = true then failTrial s else s
  | .openWait => s
  | .latched => s

/-- SHORT_CRITERION. -/
def execShortCriterion (t : Nat) (sides : SideVoltages) (through : Int) (r : TailReadings) (s : State) : Result :=
  done (whenRunning
    (fun s => if shortCriterion s.port.orientation sides through = true then meetShort r s else s) (s.advance t))

/-- OPEN_WAIT_EXPIRY (R165). -/
def execOpenWaitExpiry (s : State) : Result :=
  done (whenRunning (fun s =>
    if s.isolator.state = .openWait then onExpiry s.isolator.timer (beginTrial s.isolator.failed) s else s) s)

/-- TRIAL_EXPIRY (R166). -/
def execTrialExpiry (s : State) : Result :=
  done (whenRunning (fun s =>
    if s.isolator.state = .trial then onExpiry s.isolator.timer closeIsolator s else s) s)

/-- IR CLEAR at the isolator control (R167). -/
def clearIsolator (s : State) : State :=
  match s.isolator.state with
  | .latched => beginTrial 0 s
  | .openWait => { s with isolator := { s.isolator with failed := 0 } }
  | .trial => { s with isolator := { s.isolator with failed := 0 } }
  | .closed => s

end Sys2Proof.Machine
end

