-- ==== Sys2Proof/Machine/Supply.lean ====
section
/-! DEFINITION. Supply bands, reset, starts and start phases (10), with the NV areas read at a start (11): the commands
BAND_LOW, BAND_NORMAL, BAND_CRITICAL, START_BEGIN, CLOCK_SETTLE, LOAD_SETTINGS, SELF_TEST. -/

namespace Sys2Proof.Machine

/-! ### Reset and the kinds of start (R171, R172) -/

/-- The chip enters reset (R171): every block's working state is lost, apart from the retained domain, the cutoff it has
opened (R1), and the NV; a settings write under way is cut off, its record left without the mark it lost when the write
began (R181). The restart cause stands until the next start (R172). The time base, the queue and the free-value counter
are the model's own. -/
def enterReset (s : State) : State where
  pending := s.pending
  now := s.now
  free := s.free
  retained := s.retained
  port := { cutoffOpen := s.port.cutoffOpen }
  sender := { state := if s.retained.lockout = true then .locked else .waiting }
  settings := { factory := s.settings.factory, record := s.settings.record }
  supply := { band := .critical, bandNotBefore := s.now + Config.startHold, cause := s.supply.cause, phase := .held }
  indicator := { shown := .dark, since := s.now }

/-- A start of a kind begins (R169, R172, R173): the band is LOW, CLOCK_SETTLE runs for 20 ms, the sender is LOCKED if the
lockout stands (R13, R19), and the chatter guard counts from now (R12, log 50). -/
def beginStart (cause : RestartCause) (s : State) : State :=
  { s with
    port := { s.port with guardFrom := s.now }
    sender := { s.sender with state := if s.retained.lockout = true then .locked else .waiting }
    supply := { s.supply with
      band := .low
      bandNotBefore := 0
      cause := cause
      phase := .clockSettle
      phaseTimer := s.timerFor Config.clockSettleTime
      selftestFail := false
      uptime := 0
      tickAt := none } }

/-- A start after CRITICAL (R172): BROWNOUT with the retention mark intact; else POWER_ON, which writes the mark, clears the
lockout and closes the cutoff (R13). -/
def startFromCritical (kept : Bool) (s : State) : State :=
  if s.retained.mark = true ∧ kept = true then beginStart .brownout s
  else beginStart .powerOn
    { s with retained := { mark := true, lockout := false }, port := { s.port with cutoffOpen := false } }

/-- An IR_RESTART start: the chip enters reset and the start begins at once, the retained domain kept (R172, R179). -/
def irRestart (s : State) : State := beginStart .irRestart (enterReset s)

/-! ### Supply bands (R169 to R171) -/

/-- The chip is not held in reset. -/
abbrev State.Awake (s : State) : Prop := s.supply.phase ≠ .held

/-- The state with another band, which a voltage on the other side of its threshold leaves no earlier than 1 ms from now
(R169, log 49). -/
def State.withBand (s : State) (b : Band) : State :=
  { s with supply := { s.supply with band := b, bandNotBefore := s.now + Config.bandHold } }

/-- The voltage can have stood long enough on its new side of a threshold (R169, log 49). -/
abbrev State.BandHeld (s : State) : Prop := s.supply.bandNotBefore ≤ s.now

/-- The observation under way notes a band that is not NORMAL (R48). -/
def noteLow (s : State) : State :=
  { s with sounding := { s.sounding with obs := s.sounding.obs.map fun o => { o with low := true } } }

/-- A band that is NORMAL again by the beginning of period 0 leaves no mark on the observation (R48). One that becomes
NORMAL at that very moment counts as NORMAL there, also where the observation has begun first and noted LOW: DESIGN
CHOICE, R48 gives no order of the two (log 51). -/
def noteNormal (s : State) : State :=
  { s with sounding := { s.sounding with
      obs := s.sounding.obs.map fun o => if s.now ≤ o.tailFrom then { o with low := false } else o } }

/-- BAND_LOW (R169, R170). -/
def execBandLow (t : Nat) (mV : Nat) (s : State) : Result :=
  let now := s.advance t
  done (if now.Awake ∧ now.supply.band = .normal ∧ now.BandHeld ∧ Config.criticalBelow ≤ mV
      ∧ mV < Config.lowBelow then
    noteLow (now.withBand .low) else now)

/-- BAND_NORMAL (R169, R170). -/
def execBandNormal (t : Nat) (mV : Nat) (s : State) : Result :=
  let now := s.advance t
  done (if now.Awake ∧ now.supply.band = .low ∧ now.BandHeld ∧ Config.normalFrom ≤ mV then
    noteNormal (now.withBand .normal) else now)

/-- BAND_CRITICAL (R169, R171). From LOW it can come at once, for a voltage that has fallen below 17.0 V can have been below
14.0 V as long. -/
def execBandCritical (t : Nat) (mV : Nat) (s : State) : Result :=
  let now := s.advance t
  done (if now.Awake ∧ (now.supply.band = .normal → now.BandHeld) ∧ mV < Config.criticalBelow then enterReset now
    else now)

/-- START_BEGIN (R169, R172). -/
def execStartBegin (t : Nat) (mV : Nat) (kept : Bool) (s : State) : Result :=
  let now := s.advance t
  done (if now.supply.phase = .held ∧ now.BandHeld ∧ Config.startFrom ≤ mV then startFromCritical kept now else now)

/-! ### The start phases (R173 to R175, R182, R183) -/

/-- A phase ends when its time has passed. -/
def onPhaseEnd (phase : Phase) (f : State → State) (s : State) : State :=
  if s.supply.phase = phase then onExpiry s.supply.phaseTimer f s else s

/-- The station goes to a timed phase. -/
def enterPhase (phase : Phase) (length : Nat) (s : State) : State :=
  { s with supply := { s.supply with phase := phase, phaseTimer := s.timerFor length } }

/-- CLOCK_SETTLE (R173). -/
def execClockSettle (s : State) : Result :=
  done (onPhaseEnd .clockSettle (enterPhase .loadSettings Config.loadTime) s)

/-- The factory area passes: its check, and a trim in range (R183). -/
def FactoryArea.passes (f : FactoryArea) : Bool :=
  f.checkOk && decide (Config.trimLow ≤ f.trim ∧ f.trim ≤ Config.trimHigh)

/-- The settings record passes: its mark, its check byte, and an address in range (R182). -/
def SettingsRecord.passes (r : SettingsRecord) : Bool :=
  r.mark && r.check == recordCheck r.site r.address && decide (r.address.toNat ≤ Config.addressTop)

/-- The presence offset of a serial: (serial mod 40) × 100 ms (R111). -/
def offsetOf (serial : Serial) : Nat := Config.offsetStep * (serial.toNat % 40)

/-- The settings store reads the NV: serial and trim (R183), site code and address (R182). -/
def readNv (x : Settings) : Settings :=
  { x with
    serial := x.factory.serial
    trim := if x.factory.passes = true then x.factory.trim else Config.nominalTrim
    site := if x.record.passes = true then x.record.site else 0
    address := if x.record.passes = true then x.record.address.toNat else 0
    recovered := !x.record.passes }

/-- The end of LOAD_SETTINGS: the NV is read and checked, a failed factory area sets SELFTEST_FAIL, the offset follows the
serial (R111, R173), and the conflict is evaluated for the own address (R80); no request is taken before RUNNING (R110). -/
def loadSettings (s : State) : State :=
  let settings := readNv s.settings
  enterPhase .selfTest Config.selfTestTime { s with
    settings := settings
    sched := { s.sched with offset := offsetOf settings.serial }
    roster := { s.roster with conflict := conflictOf settings.address s.roster.entries }
    supply := { s.supply with selftestFail := s.supply.selftestFail || !settings.factory.passes } }

/-- LOAD_SETTINGS. -/
def execLoadSettings (s : State) : Result := done (onPhaseEnd .loadSettings loadSettings s)

/-- The frame the test load is driven with: class 2, the station's serial, LENGTH 0 (R174). -/
def testFrame (serial : Serial) : Frame where
  cls := 2
  serial := serial
  fields := []
  check := checkOf 2 serial []

/-- The frame as the decoders take it up from the test load, with no idle before it (R174). -/
def testReception (s : State) : RxFrame where
  startedAt := s.now
  orientation := s.port.orientation
  mutedAtStart := false
  crossings := []

/-- Both decoders give the test frame VALID, each result fixed at the end of the CHECK cell (R174). -/
def decodersPass (s : State) (h : Heard) : Bool :=
  let upToCheck := 2 * frameCellCount 0
  let v := (heardOnV h).take upToCheck
  let i := (heardOnI (testReception s) h).take upToCheck
  let driven := ChannelResult.valid (testFrame s.settings.serial)
  decide (decodeChannel v v = driven) && decide (decodeChannel i v = driven)

/-- The sampler's checks on the test tail: nothing clipped, both accumulations in the window, I in the A-to-B direction
(R174). -/
def samplerPasses (r : TailReadings) : Bool :=
  let v := vSamples r
  let i := iSamples .unknown r
  !v.any clippedSample && !i.any clippedSample
    && inSelfTestWindow (vAccumulation v) && inSelfTestWindow (iAccumulation i)

/-- RUNNING is entered (R175): uptime 0 and the second tick, the presence timer for 10 s plus the offset (R113), the head
supply on (R124), readings from now (R98), and 6 ms without sink before the first idle (R5). -/
def enterRunning (s : State) : State :=
  { s with
    supply := { s.supply with
      phase := .running, phaseTimer := none, uptime := 0, tickAt := s.timerFor Config.tickTime }
    sched := { s.sched with timer := s.timerFor (Config.firstPresence + s.sched.offset) }
    head := s.head.supplied s.now
    port := { s.port with readingsFrom := s.now }
    rx := { s.rx with idleNotBefore := s.now + Config.idleTime } }

/-- The end of SELF_TEST: a failed check sets SELFTEST_FAIL and stops nothing (R174). -/
def endSelfTest (h : Heard) (r : TailReadings) (s : State) : State :=
  enterRunning { s with supply := { s.supply with
    selftestFail := s.supply.selftestFail || !(decodersPass s h && samplerPasses r) } }

/-- SELF_TEST. -/
def execSelfTest (h : Heard) (r : TailReadings) (s : State) : Result :=
  done (onPhaseEnd .selfTest (endSelfTest h r) s)

end Sys2Proof.Machine
end

