-- ==== Sys2Proof/Machine/IrEntry.lean ====
section
/-! DEFINITION. The IR entry port, the settings write and the indicator's timers (11): DIGIT, ENTER, CANCEL, SOUND, CLEAR,
RESTART, SITE_CLEAR, IR_WORD_DISCARDED, ENTRY_TIMER_EXPIRY, SETTINGS_WRITE, IR_FEEDBACK_END, IDENTIFY_TIMER_EXPIRY. -/

namespace Sys2Proof.Machine

/-! ### The judgement of a word (R177, R178) -/

/-- What a word that arrives is. -/
inductive IrVerdict where
  | overflow
  | checkError
  | siteMismatch
  | outOfRange
  | repeated (key : Nat)
  | accepted (key : Nat)
deriving DecidableEq, Repr

/-- The key code of RESTART. -/
def restartKey : Nat := 14

/-- A valid word is a repeat: the same toggle, within 200 ms of the last valid word (R178). -/
def isRepeat (s : State) (w : IrWord) : Bool :=
  match s.ir.lastValid with
  | none => false
  | some last => decide (last.toggle = irToggle w ∧ s.now ≤ last.arrived + Config.repeatGap)

/-- The judgement of a word at its arrival, in the order of R177, then R178. -/
def judgeWord (s : State) (w : IrWord) : IrVerdict :=
  if s.ir.mode = .storing then .overflow
  else if irCheckOk w = false then .checkError
  else if s.settings.site ≠ 0 ∧ irSite w ≠ s.settings.site then .siteMismatch
  else if 15 < irKey w then .outOfRange
  else if isRepeat s w = true then .repeated (irKey w)
  else .accepted (irKey w)

/-- The state with another IR port. -/
def State.withIr (s : State) (x : IrPort) : State := { s with ir := x }

/-- A valid word becomes the last valid word (R178). -/
def rememberWord (w : IrWord) (s : State) : State :=
  s.withIr { s.ir with lastValid := some { toggle := irToggle w, arrived := s.now } }

/-- The entry timer runs for 10 s from an accepted key that leaves the state ENTERING, and is stopped outside it (R180). -/
def runEntryTimer (s : State) : State :=
  s.withIr { s.ir with
    entryTimer := if s.ir.mode = .entering then s.timerFor Config.entryTime else none }

/-- An accepted key: a press begins, the three flags are cleared, the key acts, and the word is the last valid word
(R178). -/
def acceptKey (key : Nat) (w : IrWord) (act : State → State) (s : State) : State :=
  rememberWord w (runEntryTimer (act (s.withIr { s.ir with
    press := some { key := key, since := s.now }
    checkError := false, siteMismatch := false, overflow := false })))

/-- A word acts as an accepted key among those `wanted` accepts; any other word is not this command's and changes nothing
(log 8). -/
def onAccepted (wanted : Nat → Bool) (w : IrWord) (act : State → State) (s : State) : State :=
  match judgeWord s w with
  | .accepted key => if wanted key = true then acceptKey key w act s else s
  | .overflow => s
  | .checkError => s
  | .siteMismatch => s
  | .outOfRange => s
  | .repeated _ => s

/-! ### Address entry (R180) -/

/-- The entry state becomes IDLE with nothing staged. -/
def leaveEntry (s : State) : State := s.withIr { s.ir with mode := .idle, staged := none, entryTimer := none }

/-- Error feedback, and IDLE with nothing staged. -/
def entryError (s : State) : State := giveFeedback .error (leaveEntry s)

/-- The state with a staged address. -/
def stage (value digits : Nat) (s : State) : State :=
  s.withIr { s.ir with mode := .entering, staged := some { value := value, digits := digits } }

/-- A digit key (R180). -/
def pressDigit (digit : Nat) (s : State) : State :=
  match s.ir.mode, s.ir.staged with
  | .entering, some st =>
    if st.digits < 3 then stage (10 * st.value + digit) (st.digits + 1) s else entryError s
  | _, _ => stage digit 1 s

/-- A settings write begins: STORING for 40 ms, nothing staged; the NV record loses its mark, and what it holds meanwhile is
free (R181, log 6). -/
def beginWrite (site : Site) (address : Nat) (s : State) : State :=
  let raw := Config.unsettledRecord s.free
  { s with
    free := s.free + 1
    ir := { s.ir with
      mode := .storing
      staged := none
      entryTimer := none
      write := some { site := site, address := address, endsAt := s.now + Config.writeTime } }
    settings := { s.settings with record := {
      site := raw.extractLsb' 16 16, address := raw.extractLsb' 8 8, check := raw.extractLsb' 0 8, mark := false } } }

/-- The ENTER key (R180, R181): the site code of the word is adopted where none is stored. -/
def pressEnter (w : IrWord) (s : State) : State :=
  match s.ir.mode, s.ir.staged with
  | .entering, some st =>
    if st.value ≤ Config.addressTop then
      beginWrite (if s.settings.site = 0 then irSite w else s.settings.site) st.value s
    else entryError s
  | _, _ => entryError s

/-- The CLEAR key: the head supervisor, the isolator control, and the end of an entry (R135, R167, R180). -/
def pressClear (s : State) : State := leaveEntry (clearIsolator (headEvent clearHead s))

/-- The SITE_CLEAR key (R180, R181). -/
def pressSiteClear (s : State) : State :=
  if s.settings.site = 0 then entryError s else beginWrite 0 s.settings.address s

/-- DIGIT. -/
def execDigit (t : Nat) (w : IrWord) (s : State) : Result :=
  done (whenRunning (onAccepted (fun k => decide (k ≤ 9)) w (pressDigit (irKey w))) (s.advance t))

/-- ENTER. -/
def execEnter (t : Nat) (w : IrWord) (s : State) : Result :=
  done (whenRunning (onAccepted (fun k => k == 10) w (pressEnter w)) (s.advance t))

/-- CANCEL. -/
def execCancel (t : Nat) (w : IrWord) (s : State) : Result :=
  done (whenRunning (onAccepted (fun k => k == 11) w leaveEntry) (s.advance t))

/-- SOUND: an exempt request; the entry state stays (R180). -/
def execSound (t : Nat) (w : IrWord) (s : State) : Result :=
  done (whenRunning (onAccepted (fun k => k == 12) w exemptRequest) (s.advance t))

/-- CLEAR. -/
def execClear (t : Nat) (w : IrWord) (s : State) : Result :=
  done (whenRunning (onAccepted (fun k => k == 13) w pressClear) (s.advance t))

/-- SITE_CLEAR. -/
def execSiteClear (t : Nat) (w : IrWord) (s : State) : Result :=
  done (whenRunning (onAccepted (fun k => k == 15) w pressSiteClear) (s.advance t))

/-! ### RESTART (R179) -/

/-- The press at hand is RESTART, held for 3 s or more (R179). -/
def restartHeld (s : State) : Bool :=
  match s.ir.press with
  | none => false
  | some p => decide (p.key = restartKey ∧ p.since + Config.restartHold ≤ s.now)

/-- A word that carries RESTART: its first word is accepted and does nothing more; a repeat continues the press, and 3 s or
more after the first word requests the start (R179). -/
def pressRestart (w : IrWord) (s : State) : State :=
  match judgeWord s w with
  | .accepted key => if key = restartKey then acceptKey key w (fun s => s) s else s
  | .repeated key =>
    if key = restartKey then (if restartHeld s = true then irRestart s else rememberWord w s) else s
  | .overflow => s
  | .checkError => s
  | .siteMismatch => s
  | .outOfRange => s

/-- RESTART. -/
def execRestart (t : Nat) (w : IrWord) (s : State) : Result :=
  done (whenRunning (pressRestart w) (s.advance t))

/-! ### IR_WORD_DISCARDED (R177 to R179) -/

/-- The hold of a RESTART press is abandoned; another press is not affected (R179, log 25). -/
def abandonHold (s : State) : State :=
  if s.ir.press.any (fun p => decide (p.key = restartKey)) = true then s.withIr { s.ir with press := none } else s

/-- A word that is discarded, ignored, or the repeat of a key other than RESTART. -/
def discardWord (w : IrWord) (s : State) : State :=
  match judgeWord s w with
  | .overflow => s.withIr { s.ir with overflow := true }
  | .checkError => s.withIr { s.ir with checkError := true }
  | .siteMismatch => giveFeedback .error (s.withIr { s.ir with siteMismatch := true })
  | .outOfRange => s
  | .repeated key => if key = restartKey then s else rememberWord w (abandonHold s)
  | .accepted _ => s

/-- IR_WORD_DISCARDED. -/
def execIrWordDiscarded (t : Nat) (w : IrWord) (s : State) : Result :=
  done (whenRunning (discardWord w) (s.advance t))

/-! ### Timers and the end of a write (R180, R181, R185) -/

/-- ENTRY_TIMER_EXPIRY. -/
def execEntryTimerExpiry (s : State) : Result :=
  done (whenRunning (fun s => onExpiry s.ir.entryTimer leaveEntry s) s)

/-- The entry state becomes IDLE as a write ends. -/
def endStoring (s : State) : State := s.withIr { s.ir with mode := .idle, write := none }

/-- The record a write programs (R181, R182). -/
def programmed (x : Write) : SettingsRecord where
  site := x.site
  address := u8 x.address
  check := recordCheck x.site (u8 x.address)
  mark := true

/-- A write completes (R181): the stored values change, NV_RECOVERED is cleared, the conflict is evaluated, a changed address
is an exempt request, acknowledge feedback is given, in this order (log 31). -/
def completeWrite (x : Write) (s : State) : State :=
  let stored := evaluateConflict { s with settings := { s.settings with
    record := programmed x, site := x.site, address := x.address, recovered := false } }
  endStoring (giveFeedback .acknowledge
    (if x.address = s.settings.address then stored else exemptRequest stored))

/-- A write fails its read-back (R181): the record is as read and lacks its mark, the stored values stay, and error
feedback is given. -/
def failWrite (read : SettingsRecord) (s : State) : State :=
  endStoring (giveFeedback .error { s with settings := { s.settings with record := read } })

/-- A write ends with what was read back (R181). -/
def endWrite (site : Site) (address check : Byte) (x : Write) (s : State) : State :=
  let read : SettingsRecord := { site := site, address := address, check := check, mark := true }
  if read = programmed x then completeWrite x s else failWrite { read with mark := false } s

/-- SETTINGS_WRITE. -/
def execSettingsWrite (site : Site) (address check : Byte) (s : State) : Result :=
  done (whenRunning (fun s =>
    match s.ir.write with
    | none => s
    | some x => endWrite site address check x (s.advance x.endsAt)) s)

/-- The feedback's time runs out (R185). -/
def endFeedback (s : State) : State := { s with indicator := { s.indicator with feedback := none } }

/-- IR_FEEDBACK_END. -/
def execIrFeedbackEnd (s : State) : Result :=
  done (whenRunning (fun s => onExpiry (s.indicator.feedback.map Feedback.endsAt) endFeedback s) s)

/-- The IDENTIFY timer runs out (R185). -/
def endIdentify (s : State) : State := { s with indicator := { s.indicator with identify := none } }

/-- IDENTIFY_TIMER_EXPIRY. -/
def execIdentifyTimerExpiry (s : State) : Result :=
  done (whenRunning (fun s => onExpiry s.indicator.identify endIdentify s) s)

end Sys2Proof.Machine
end

