-- ==== Sys2Proof/Machine/Capture.lean ====
section
/-! DEFINITION. The content of the station's own messages, captured from its owners at the START cell (R29, R31, R34 to R36,
R154 to R159), and the frame that carries it (R6, R22). -/

namespace Sys2Proof.Machine

/-- An optional figure in two bytes; 65535 is absent (R29, R35, R36). -/
def u16Opt (x : Option Nat) : List Byte := u16 (x.getD 65535)

/-- The own depth as sent: absent while the own quality is 0 (R29). -/
def State.ownDepthSent (s : State) : Option Nat := if s.sounding.ownQuality = 0 then none else s.sounding.ownDepth

/-- The fields of a PRESENCE (02, table before R29). -/
def presenceFields (s : State) : List Byte :=
  siteBytes s.settings.site ++ [u8 s.settings.address, u8 s.sched.interval] ++ u24 s.supply.uptime
    ++ u16 s.settings.trim ++ u16Opt s.ownDepthSent
    ++ [u8 s.sounding.ownQuality, s.stateByte, s.headByte, s.flagByte]
    ++ (match s.roster.conflict with
      | some c => serialBytes c
      | none => [])

/-- The fields of a TEST, from the last test event (R31, R139). -/
def testFields (s : State) (e : TestEvent) : List Byte :=
  siteBytes s.settings.site ++ [u8 s.settings.address, u8 e.kind.code, u8 e.type.code, u8 e.number] ++ u24 e.uptime

/-- The SUMMARY body (R35). -/
def summaryBody (s : State) : List Byte :=
  let p := s.loopPicture
  [u8 s.settings.address, s.stateByte] ++ u16Opt s.ownDepthSent
    ++ [u8 s.sounding.ownQuality, u8 p.rank, u8 s.roster.liveCount, u8 s.roster.staleCount, u8 p.downstream,
      u8 p.branched, u8 p.split, u8 p.inconsistent, u8 p.unmeasured, p.findingsByte,
      u8 s.isolator.state.code, s.headByte, s.journalByte]
    ++ u16 s.rx.good ++ u16 s.rx.damaged ++ u16 s.rx.foreign
    ++ [u8 s.rx.lastDamage.code, u8 s.sounding.lastRejection.code, u8 s.supply.band.code]
    ++ u24 s.supply.uptime ++ [s.flagByte, s.stationByte, s.irFlagsByte]
    ++ (match p.firstFinding with
      | some c => serialBytes c
      | none => [])

/-- The ENTRY body (R36, R86). -/
def entryBody (e : Entry) : List Byte :=
  serialBytes e.serial ++ [u8 e.address, e.entryByte] ++ u16Opt e.depth ++ u16Opt e.shared ++ u16Opt e.through
    ++ [u8 e.quality, u8 e.relation.code, u8 e.restarts, headByteOf e.headState e.testState] ++ u16 e.age
    ++ [u8 e.interval]

/-- The JOURNAL body (R36, R148). -/
def journalBody (j : JournalEntry) : List Byte :=
  u24 j.heardAt ++ serialBytes j.serial ++ [u8 j.address, u8 j.kind.code, u8 j.number, u8 j.source.code]

/-- What the reply unit decides at capture: an ANSWER with its body, or a REFUSAL with its reason (R154). -/
inductive ReplyContent where
  | answer (body : List Byte)
  | refusal (reason : Nat)
deriving DecidableEq, Repr

/-- The decision at capture, by the item and index of the record (R155, R156, R158, R159): reasons NO_SUCH_ENTRY 0 and
UNKNOWN_ITEM 1 (R27). -/
def replyContent (s : State) (r : PendingReply) : ReplyContent :=
  match r.item with
  | 0 => .answer (summaryBody s)
  | 1 =>
    match s.roster.entries[r.index.getD 0]? with
    | some e => .answer (entryBody e)
    | none => .refusal 0
  | 2 =>
    match s.journal.entries[r.index.getD 0]? with
    | some j => .answer (journalBody j)
    | none => .refusal 0
  | 4 => .answer []
  | _ => .refusal 1

/-- The index byte of a REPLY, for ENTRY and JOURNAL. -/
def indexBytes (r : PendingReply) : List Byte := (r.index.map u8).toList

/-- The fields of a REPLY (02, table before R34). -/
def replyFields (s : State) (r : PendingReply) : List Byte :=
  match replyContent s r with
  | .answer body =>
    siteBytes s.settings.site ++ [0] ++ serialBytes r.requester ++ [u8 r.item] ++ indexBytes r ++ body
  | .refusal reason =>
    siteBytes s.settings.site ++ [1] ++ serialBytes r.requester ++ [u8 r.item] ++ indexBytes r
      ++ [u8 reason, s.flagByte]

/-- The fields of a message taken from its owner now; none if the owner holds nothing to send, which no filled slot meets
(R139, R151, log 35). -/
def captureFields (s : State) : OutKind → Option (List Byte)
  | .presence => some (presenceFields s)
  | .test => s.head.lastEvent.map (testFields s)
  | .reply => s.reply.record.map (replyFields s)

/-- The frame a captured message makes on the line (R6, R22). -/
def State.frameOf (s : State) (o : Outgoing) : Frame where
  cls := o.kind.cls
  serial := s.settings.serial
  fields := o.fields
  check := checkOf o.kind.cls s.settings.serial o.fields

/-- The slot to send: TEST if filled, else REPLY, else PRESENCE (R8). -/
def pickSlot (x : LineSender) : Option OutKind :=
  if x.test.filled = true then some .test
  else if x.reply.filled = true then some .reply
  else if x.presence.filled = true then some .presence
  else none

/-- The interval a PRESENCE started now announces: 30 + (live count div 2) (R112). -/
def announcedInterval (s : State) : Nat := Config.baseInterval + s.roster.liveCount / 2

/-- The scheduler computes the interval just before a PRESENCE is captured (R112). -/
def beforeCapture (k : OutKind) (s : State) : State :=
  match k with
  | .presence => { s with sched := { s.sched with interval := announcedInterval s } }
  | .test => s
  | .reply => s

/-- The frame that begins now, as both channels take it up (R5, R14, R101). -/
def newFrame (s : State) : RxFrame where
  startedAt := s.now
  orientation := s.port.orientation
  mutedAtStart := s.isolating
  crossings := []

/-- A START leading edge now: the line is not idle, no idle is judged before 6 ms after the end of the last SERIAL cell, and
both channels begin decoding (R5, R14). -/
def beginFrame (s : State) : State :=
  { s with rx := { s.rx with
      idle := false
      idleNotBefore := s.now + Config.contentionHalves * Config.halfCell + Config.idleTime
      underWay := some (newFrame s) } }

/-- The station begins the START cell of a message of kind `k`: its content is captured, the tail decision with it (R8, R39),
and its receiver takes the frame up too, for the case that it loses (R17). -/
def beginMessage (k : OutKind) (s : State) : State :=
  let ready := beforeCapture k s
  match captureFields ready k with
  | none => s
  | some fields =>
    beginFrame { ready with sender := { ready.sender with
      state := .contending
      outgoing := some {
        kind := k
        fields := fields
        soundFollows := decide (k = .presence) && ready.tailWouldFollow
        startedAt := ready.now } } }

/-- At an idle a waiting sender starts the message of its highest filled slot (R8). -/
def contend (s : State) : State :=
  if s.sender.state = .waiting then
    match pickSlot s.sender with
    | some k => beginMessage k s
    | none => s
  else s

end Sys2Proof.Machine
end

