-- ==== Sys2Proof/Machine/Delivery.lean ====
section
/-! DEFINITION. The reception of a frame: its tally (R18), and the delivery of a received message to its owners (R38): the
roster, the sounding unit, the test journal, the reply unit (09) and the presence scheduler. -/

namespace Sys2Proof.Machine

/-! ### Queries (R152 to R159) -/

/-- Whether a QUERY concerns the station (R152). -/
def concerns (s : State) (selector : Selector) (item : Nat) : Bool :=
  match selector with
  | .serial x => decide (x = s.settings.serial)
  | .address a => decide (a = s.settings.address)
  | .all => item == 0 || item == 3 || item == 4

/-- The record of a query is written and the REPLY slot filled; IDENTIFY starts its timer at the same moment (R153, R158). -/
def takeQuery (requester : Serial) (item : Nat) (index : Option Nat) (s : State) : State :=
  let recorded := fillSlot .reply
    { s with reply := { s.reply with record := some { requester := requester, item := item, index := index } } }
  if item = 4 then
    { recorded with indicator := { recorded.indicator with identify := recorded.timerFor Config.identifyTime } }
  else recorded

/-- A QUERY is delivered to the reply unit: dropped when it does not concern the station (R152); SOUND is an exempt request
(R157); any other item needs the REPLY slot empty and the lockout clear (R153). -/
def deliverQuery (requester : Serial) (selector : Selector) (item : Nat) (index : Option Nat) (s : State) : State :=
  if concerns s selector item = false then s
  else if item = 3 then exemptRequest s
  else if s.sender.reply.filled = true ∨ s.retained.lockout = true then s
  else takeQuery requester item index s

/-! ### Delivery to owners (R38) -/

/-- A PRESENCE announcing a tail begins an observation of it: it is delivered at the end of its CHECK cell, and two quiet
cells later its tail begins (R30, R38, R44). -/
def hearTail (sender : Serial) (p : PresenceIn) (s : State) : State :=
  if p.soundFollows = true then observe (newObservation s (some sender) p.trim (s.now + Config.quietCells)) s else s

/-- A received message is delivered to every owner of its kind; one under the station's own serial to the roster alone, which
sets SERIAL_CLASH (R38, R73). -/
def deliver (sender : Serial) (via : Via) (m : Message) (s : State) : State :=
  if sender = s.settings.serial then { s with roster := { s.roster with clash := true } }
  else match m with
    | .presence p => hearTail sender p (takeIn sender via m s)
    | .test address kind number typeTested =>
      writeJournal (peerEntry s sender address kind number typeTested) (takeIn sender via m s)
    | .query selector item index => deliverQuery sender selector item index s
    | .quiet duration => takeQuiet duration s
    | .reply => takeIn sender via m s

/-! ### The tallies (R18) -/

/-- A frame delivered as a received message is counted good; I_DAMAGED is noted (R15, R18). -/
def countGood (iDamaged : Bool) (s : State) : State :=
  { s with rx := { s.rx with
      good := countUp Config.tallyTop s.rx.good
      lastDamage := if iDamaged = true then .iDamaged else s.rx.lastDamage } }

/-- A discarded frame is counted damaged, with its kind (R18). -/
def countDamaged (kind : DamageKind) (s : State) : State :=
  { s with rx := { s.rx with damaged := countUp Config.tallyTop s.rx.damaged, lastDamage := kind } }

/-- A frame set aside by the site-code filter is counted foreign (R18, R26). -/
def countForeign (s : State) : State :=
  { s with rx := { s.rx with foreign := countUp Config.tallyTop s.rx.foreign } }

/-- The final outcome of a frame takes effect, whole, at the moment of its decision (R16, R18, R38). -/
def takeReception (r : Reception) (s : State) : State :=
  match r with
  | .delivered sender via iDamaged m => deliver sender via m (countGood iDamaged s)
  | .foreign => countForeign s
  | .discarded kind => countDamaged kind s

/-- The oldest frame that an idle has ended and that is not decided yet, if this can be the hearing of it: a frame that
announces no tail, with no sink in the 6 ms before now (R5, R16, log 8). -/
def State.endedFrame (s : State) (h : Heard) : Option RxFrame :=
  s.rx.awaiting.head?.filter fun f =>
    !(decideFrame f h).announcesTail && decide (f.lastSink h + Config.idleTime ≤ s.now)

/-- The end of the CHECK cell of a frame that is accepted, and its START edge for any other (R6, R16). -/
def RxFrame.checkEnd (f : RxFrame) : Decision → Nat
  | .accepted g _ _ => f.startedAt + frameTime g.fields.length
  | .damaged _ => f.startedAt

/-- The frame under way, if this is the hearing of it and the moment is the end of its CHECK cell: an accepted frame that
announces a tail, and not the station's own (R16, R17, R38). -/
def State.tailFrame (s : State) (h : Heard) : Option RxFrame :=
  s.rx.underWay.filter fun f =>
    s.sender.outgoing.isNone && (decideFrame f h).announcesTail && decide (f.checkEnd (decideFrame f h) = s.now)

/-- The oldest frame that awaits its decision leaves the receiver. -/
def dropEnded (s : State) : State := { s with rx := { s.rx with awaiting := s.rx.awaiting.drop 1 } }

/-- A frame that announces a tail leaves the receiver at the end of its CHECK cell, 6 ms after whose last sink no idle is
judged yet (R5, R16). -/
def dropTailFrame (f : RxFrame) (h : Heard) (s : State) : State :=
  { s with rx := { s.rx with
      underWay := none
      idleNotBefore := max s.rx.idleNotBefore (f.lastSink h + Config.idleTime) } }

/-- A frame takes its final outcome `r` if that is one that `wanted` accepts; `leave` takes the frame out of the receiver. -/
def takeIf (wanted : Reception → Bool) (r : Reception) (leave : State → State) (s : State) : State :=
  if wanted r = true then takeReception r (leave s) else s

/-- A frame is decided from what was heard of it: one that an idle has ended, or at the end of its CHECK cell one under
way that announces a tail. Without such a frame nothing is decided (R5, R16, R19). -/
def receiveIf (wanted : Reception → Bool) (h : Heard) (s : State) : State :=
  match s.endedFrame h with
  | some f => takeIf wanted (receptionOf s.settings.site f h) dropEnded s
  | none =>
    match s.tailFrame h with
    | some f => takeIf wanted (receptionOf s.settings.site f h) (dropTailFrame f h) s
    | none => s

end Sys2Proof.Machine
end

