-- ==== Sys2Proof/Machine/Line.lean ====
section
/-! DEFINITION. The commands of the line and of the station's own sending (01, 03): LINE_IDLE, START_LEADING_EDGE,
CONTENTION_LOST, SEND_MISMATCH, LAST_SERIAL_CELL_SENT, MESSAGE_SENT, OWN_TAIL_START, TAIL_END, SINK_LOCKOUT; and what the sink
driver draws (R1). -/

namespace Sys2Proof.Machine

/-! ### LINE_IDLE (R5, R8, R16, R47) -/

/-- The station's message is on the line, or the quiet cells that follow a PRESENCE. The V-channel hears the station's own
sink there, else the message would have been aborted (R10), and so finds no gap of 6 ms. During the own tail nothing tells
the station whether its V-channel hears it, and an idle can be judged (R5, R47, log 39). -/
def State.hasLine (s : State) : Bool := s.sender.outgoing.isSome || decide (s.sender.state = .quietCells)

/-- Whether a frame that ends now was heard without sink in the last 6 ms: where its hearing is given, it must say so
(R5). -/
def State.heardQuiet (s : State) (heard : Option Heard) : Bool :=
  match heard, (s.rx.awaiting ++ s.rx.underWay.toList).head? with
  | some h, some f => decide (f.lastSink h + Config.idleTime ≤ s.now)
  | _, _ => true

/-- Whether an idle can be judged now (R5, log 39): the V-channel is not known to have judged sink within the last 6 ms,
nor to be within the contention field of a frame or 6 ms after it, and no message of the station's own is on the line. -/
def State.mayJudgeIdle (s : State) (heard : Option Heard) : Bool :=
  decide (s.rx.idleNotBefore ≤ s.now) && !s.hasLine && s.heardQuiet heard

/-- The line is idle: a frame under way ends with it and awaits its decision (R5, R16). In the own tail it is noted (log
39). -/
def judgeIdle (s : State) : State :=
  { s with rx := { s.rx with
      idle := true
      idleInTail := s.rx.idleInTail || decide (s.sender.state = .tail)
      underWay := none
      awaiting := s.rx.awaiting ++ s.rx.underWay.toList } }

/-- The frame that this idle ended is decided in the same step, where its hearing is given (R16, log 8). -/
def decideAtIdle (heard : Option Heard) (s : State) : State :=
  match heard with
  | none => s
  | some h => receiveIf (fun _ => true) h s

/-- The line becomes idle, or is still idle (log 7): the frame is decided, an observation is TRUNCATED, and a waiting
sender with a filled slot starts (R8). In this order: DESIGN CHOICE, R45, R47, R8 and R155 give none, so that a SUMMARY
captured at this idle shows TRUNCATED (log 52). -/
def lineBecomesIdle (heard : IdleHearing) (s : State) : State :=
  if s.mayJudgeIdle heard.frame = true then
    contend (truncate heard.tail (decideAtIdle heard.frame (judgeIdle s)))
  else s

/-- LINE_IDLE. -/
def execLineIdle (t : Nat) (heard : IdleHearing) (s : State) : Result :=
  done (whenRunning (lineBecomesIdle heard) (s.advance t))

/-! ### START_LEADING_EDGE (R5, R14) -/

/-- The V-channel is known to have judged sink at `moment`: no idle is judged before 6 ms after it (R5). -/
def noteSink (moment : Nat) (s : State) : State :=
  { s with rx := { s.rx with idleNotBefore := max s.rx.idleNotBefore (moment + Config.idleTime) } }

/-- Sink heard on an idle line begins a frame; on a line that is not idle it begins nothing, but its 6 ms without sink begin
anew (R5). -/
def hearStart (dip : Int) (s : State) : State :=
  if judgeV dip = false then s
  else if s.rx.idle = true then beginFrame s
  else noteSink s.now s

/-- START_LEADING_EDGE. -/
def execStartLeadingEdge (t : Nat) (dip : Int) (s : State) : Result :=
  done (whenRunning (hearStart dip) (s.advance t))

/-! ### The end of an own message (R8, R10, R11) -/

/-- The station's message leaves the line; the sender goes to `next` (table after R11). -/
def leaveLine (next : SenderState) (s : State) : State :=
  { s with sender := { s.sender with state := next, outgoing := none } }

/-- The station's receiver drops the frame it sent itself (R17). -/
def dropOwnFrame (s : State) : State := { s with rx := { s.rx with underWay := none } }

/-- The middle of the first half of cell `cell` of a message (log 33). -/
def Outgoing.cellMoment (o : Outgoing) (cell : Nat) : Nat :=
  o.startedAt + 2 * Config.halfCell * cell + Config.halfCell / 2

/-- The bits of the contention field the station sends (R6). -/
def State.sentContention (s : State) (o : Outgoing) : List Bool := contentionBits o.kind.cls s.settings.serial

/-- A contender that judges dominant during one of its recessive cells has lost: it stops, keeps its slot with the abort
count unchanged, and goes on receiving the frame (R8, R17). -/
def loseContention (cell : Nat) (dip : Int) (s : State) : State :=
  match s.sender.outgoing with
  | none => s
  | some o =>
    if s.sender.state = .contending ∧ (s.sentContention o)[cell]? = some false ∧ judgeV dip = true then
      messageRetried o.kind (s.sender.slot o.kind).aborts (leaveLine .waiting (s.advance (o.cellMoment cell)))
    else s

/-- CONTENTION_LOST. -/
def execContentionLost (cell : Nat) (dip : Int) (s : State) : Result :=
  done (whenRunning (loseContention cell dip) s)

/-! ### SEND_MISMATCH (R10, R11) -/

/-- The middle of half-cell `half` of a message. -/
def Outgoing.halfMoment (o : Outgoing) (half : Nat) : Nat :=
  o.startedAt + Config.halfCell * half + Config.halfCell / 2

/-- Whether the V-channel judges half-cell `half` as sink, of a cell over whose halves it sees the dips `first` and
`second`. -/
def judgedHalf (half : Nat) (dips : CellDips) : Bool := judgeV (if half % 2 = 0 then dips.first else dips.second)

/-- Whether the cell of half-cell `half`, START or of the contention field, is judged recessive with that half: the START
cell by no sink in either half (log 44), a cell of the contention field by no sink in its first half (R4). -/
def judgedRecessive (half : Nat) (dips : CellDips) : Bool :=
  if half < 2 then half == 1 && !judgeV dips.first && !judgeV dips.second
  else half % 2 == 0 && !judgeV dips.first

/-- Whether the cell or half-cell of a message is judged otherwise than sent (R10): in the START cell and contention field
only a dominant cell judged recessive is a mismatch, in the payload every half-cell is compared. -/
def State.mismatchAt (s : State) (o : Outgoing) (half : Nat) (dips : CellDips) : Bool :=
  match (frameHalves (s.frameOf o))[half]? with
  | none => false
  | some sent =>
    if half < Config.contentionHalves then
      decide (s.sender.state = .contending) && sent && judgedRecessive half dips
    else decide (s.sender.state = .payload) && (sent != judgedHalf half dips)

/-- The last moment at which the V-channel judged sink in a message that meets a mismatch at `half`: that half, if it is
judged sink, else the end of the last sink half sent before it, which was heard as sent (R5, R10). -/
def State.sinkBeforeAbort (s : State) (o : Outgoing) (half : Nat) (judged : Bool) : Nat :=
  if judged = true then o.halfMoment half
  else o.startedAt + Config.halfCell * sinkHalves ((frameHalves (s.frameOf o)).take half)

/-- An abort (R10, R11): the message leaves the line and the slot's count rises; at 8 the message is discarded. -/
def abortMessage (k : OutKind) (s : State) : State :=
  let count := (s.sender.slot k).aborts + 1
  let off := dropOwnFrame (leaveLine .waiting s)
  if count < Config.abortLimit then messageRetried k count off else messageEnded k off

/-- The station finds a half-cell judged otherwise than it sent (R10). -/
def meetMismatch (half : Nat) (dips : CellDips) (s : State) : State :=
  match s.sender.outgoing with
  | none => s
  | some o =>
    if s.mismatchAt o half dips = true then
      abortMessage o.kind (noteSink (s.sinkBeforeAbort o half (judgedHalf half dips))
        (s.advance (o.halfMoment half)))
    else s

/-- SEND_MISMATCH. -/
def execSendMismatch (half : Nat) (dips : CellDips) (s : State) : Result :=
  done (whenRunning (meetMismatch half dips) s)

/-! ### LAST_SERIAL_CELL_SENT (R8, R10, table after R11) -/

/-- A contender has sent its last SERIAL cell: it has won, and goes to PAYLOAD. -/
def winContention (s : State) : State :=
  match s.sender.outgoing with
  | none => s
  | some o =>
    if s.sender.state = .contending then
      let won := s.advance (o.startedAt + Config.contentionHalves * Config.halfCell)
      { won with sender := { won.sender with state := .payload } }
    else s

/-- LAST_SERIAL_CELL_SENT. -/
def execLastSerialCellSent (s : State) : Result := done (whenRunning winContention s)

/-! ### MESSAGE_SENT (R11) -/

/-- The CHECK cell has been sent: the slot empties and its owner is told; after a PRESENCE with SOUND_FOLLOWS two quiet
cells pass before the tail (R11, R40). -/
def sendComplete (s : State) : State :=
  match s.sender.outgoing with
  | none => s
  | some o =>
    if s.sender.state = .payload then
      let sent := dropOwnFrame (noteSink (o.startedAt + Config.halfCell * sinkHalves (frameHalves (s.frameOf o)))
        (s.advance (o.startedAt + frameTime o.fields.length)))
      let off := leaveLine (if o.soundFollows = true then .quietCells else .waiting) sent
      messageEnded o.kind { off with sender := { off.sender with
        tailAt := if o.soundFollows = true then off.timerFor Config.quietCells else none } }
    else s

/-- MESSAGE_SENT. -/
def execMessageSent (s : State) : Result := done (whenRunning sendComplete s)

/-! ### OWN_TAIL_START and TAIL_END (R40, R41, R44) -/

/-- The sounding unit takes the line for the own tail and begins the own observation (R40, R44). -/
def beginOwnTail (s : State) : State :=
  observe (newObservation s none s.settings.trim s.now)
    { s with
      rx := { s.rx with idleInTail := false }
      sender := { s.sender with state := .tail, tailAt := s.timerFor Config.tailTime } }

/-- OWN_TAIL_START. -/
def execOwnTailStart (s : State) : Result :=
  done (whenRunning (fun s =>
    if s.sender.state = .quietCells then onExpiry s.sender.tailAt beginOwnTail s else s) s)

/-- The moment period 63 of the tail being observed ends. -/
def State.observedEnd (s : State) : Timer := s.sounding.obs.map Observation.endsAt

/-- The moment period 63 of the own tail ends. -/
def State.ownTailEnd (s : State) : Timer := if s.sender.state = .tail then s.sender.tailAt else none

/-- The earlier of two moments, where there are any. -/
def earlier : Timer → Timer → Timer
  | some a, some b => some (min a b)
  | some a, none => some a
  | none, b => b

/-- The moment the next tail ends. The own tail and the one observed are one, but for a station that has judged an idle
during its own tail and observes a peer's since (R5, R44, R45). -/
def State.tailEndsAt (s : State) : Timer := earlier s.observedEnd s.ownTailEnd

/-- Whether the V-channel is taken to have heard the own tail: no idle has been judged since it began (R5, R47, log 39). -/
def State.hearsOwnTail (s : State) : Bool := !s.rx.idleInTail

/-- After its own tail the station's line goes back to the sender; its last sink was in period 62, so that an idle comes
no earlier than 4 ms after the tail, where the V-channel heard that sink (R5, R41). -/
def returnLine (s : State) : State :=
  let back := { s with sender := { s.sender with state := .waiting, tailAt := none } }
  if s.hearsOwnTail = true then noteSink (s.sender.tailAt.getD s.now - Config.tailPeriod) back else back

/-- The tail that ends now is decided if it is the one observed, and the line returns if it is the own one (R41, R45). -/
def endTail (r : TailReadings) (s : State) : State :=
  let decided := if s.observedEnd = s.tailEndsAt then decideObservation r s else s
  if s.ownTailEnd = s.tailEndsAt then returnLine decided else decided

/-- TAIL_END. -/
def execTailEnd (r : TailReadings) (s : State) : Result :=
  done (whenRunning (fun s => onExpiry s.tailEndsAt (endTail r) s) s)

/-! ### The sink driver (R1, R6, R40) -/

/-- Whether the sink is commanded on at this moment: by the line sender in the sink half-cells of the message on the line
(R6), by the sounding unit in the on periods of the own tail (R40); between these the driver is off (R1). -/
def State.sinkCommanded (s : State) : Bool :=
  match s.sender.outgoing with
  | some o => (frameHalves (s.frameOf o)).getD ((s.now - o.startedAt) / Config.halfCell) false
  | none =>
    match s.sender.state, s.sender.tailAt with
    | .tail, some e => decide (s.now < e) && tailPeriodOn ((s.now + Config.tailTime - e) / Config.tailPeriod)
    | _, _ => false

/-- The current the sink draws at this moment, in uA: the trim in use while it is commanded on and the cutoff is closed
(R1). -/
def State.sinkCurrent (s : State) : Nat :=
  if s.sinkCommanded = true ∧ s.port.cutoffOpen = false then s.settings.trim else 0

/-! ### SINK_LOCKOUT (R12) -/

/-- A slot's owner hears that the lockout has discarded its message, if the slot was filled (R12). -/
def tellDiscarded (k : OutKind) (before : LineSender) (s : State) : State :=
  if (before.slot k).filled = true then tellOwner k s else s

/-- The lockout clears the exempt marks of the slot it empties (R117). -/
def clearMarks (s : State) : State := { s with sched := { s.sched with exempt := false, exemptRefill := false } }

/-- The chatter guard opens the cutoff and sets the latch: what is being sent stops, the slots empty, their owners are
told, and the sender is LOCKED (R12). Its own receiver drops a frame so cut, uncounted: DESIGN CHOICE, for R17 names only
frames sent to the end, lost or aborted (log 42). -/
def lockSink (s : State) : State :=
  let own := if s.sender.outgoing.isSome = true then dropOwnFrame s else s
  let locked := { own with
    retained := { own.retained with lockout := true }
    port := { own.port with cutoffOpen := true }
    sender := { state := .locked } }
  clearMarks (tellDiscarded .presence s.sender (tellDiscarded .reply s.sender
    (tellDiscarded .test s.sender locked)))

/-- The sink has drawn current for more than 50 ms without a break, as the chatter guard counts it: from the end of the
last gap, and not from before the start (R12, log 50). -/
abbrev State.DrewTooLong (s : State) (d : SinkDrawn) : Prop := max d.since s.port.guardFrom + Config.sinkLimit < d.upTo

/-- SINK_LOCKOUT: a chip held in reset watches nothing, and an open cutoff lets no current be drawn (R1, R12, log 24). -/
def execSinkLockout (drawn : SinkDrawn) (s : State) : Result :=
  let now := s.advance drawn.upTo
  done (if now.supply.phase ≠ .held ∧ now.port.cutoffOpen = false ∧ now.DrewTooLong drawn then lockSink now else now)

end Sys2Proof.Machine
end

