-- ==== Sys2Proof/Machine/Reception.lean ====
section
/-! DEFINITION. The commands by which a heard frame is decided (02): PRESENCE, TEST, QUERY, QUIET, REPLY and FRAME_DISCARDED.
Each acts when the frame at hand, heard as its operand says, has the outcome its row names (log 8). -/

namespace Sys2Proof.Machine

/-- The outcome is a received PRESENCE. -/
def Reception.isPresence : Reception → Bool
  | .delivered _ _ _ (.presence _) => true
  | _ => false

/-- The outcome is a received TEST. -/
def Reception.isTest : Reception → Bool
  | .delivered _ _ _ (.test _ _ _ _) => true
  | _ => false

/-- The outcome is a received QUERY. -/
def Reception.isQuery : Reception → Bool
  | .delivered _ _ _ (.query _ _ _) => true
  | _ => false

/-- The outcome is a received QUIET. -/
def Reception.isQuiet : Reception → Bool
  | .delivered _ _ _ (.quiet _) => true
  | _ => false

/-- The outcome is a received REPLY. -/
def Reception.isReply : Reception → Bool
  | .delivered _ _ _ .reply => true
  | _ => false

/-- The outcome is a frame discarded or set aside as foreign. -/
def Reception.isDiscard : Reception → Bool
  | .delivered _ _ _ _ => false
  | .foreign => true
  | .discarded _ => true

/-- PRESENCE (R30). -/
def execPresence (t : Nat) (h : Heard) (s : State) : Result :=
  done (whenRunning (receiveIf Reception.isPresence h) (s.advance t))

/-- TEST (R31). -/
def execTest (t : Nat) (h : Heard) (s : State) : Result :=
  done (whenRunning (receiveIf Reception.isTest h) (s.advance t))

/-- QUERY (R32). -/
def execQuery (t : Nat) (h : Heard) (s : State) : Result :=
  done (whenRunning (receiveIf Reception.isQuery h) (s.advance t))

/-- QUIET (R33). -/
def execQuiet (t : Nat) (h : Heard) (s : State) : Result :=
  done (whenRunning (receiveIf Reception.isQuiet h) (s.advance t))

/-- REPLY (R37). -/
def execReply (t : Nat) (h : Heard) (s : State) : Result :=
  done (whenRunning (receiveIf Reception.isReply h) (s.advance t))

/-- FRAME_DISCARDED (R15, R23, R26). -/
def execFrameDiscarded (t : Nat) (h : Heard) (s : State) : Result :=
  done (whenRunning (receiveIf Reception.isDiscard h) (s.advance t))

end Sys2Proof.Machine
end

