-- ==== Sys2Proof/Machine/Survey.lean ====
section
/-! DEFINITION. The commands of the second tick and of what it paces (04, 05, 10): SECOND_TICK, ORIENTATION_CHANGE, ENTRY_STALE,
ENTRY_REMOVED; and of the presence scheduler's two times (06): PRESENCE_TIMER_EXPIRY, QUIET_END. -/

namespace Sys2Proof.Machine

/-- Uptime rises by 1 and the next tick comes one second later (R176). -/
def countSecond (s : State) : State :=
  { s with supply := { s.supply with
      uptime := countUp Config.uptimeTop s.supply.uptime
      tickAt := s.timerFor Config.tickTime } }

/-- The orientation reading of a tick, where it is given with the tick (R98, log 16). -/
def readingAtTick (through : Option Int) (s : State) : State :=
  match through with
  | none => s
  | some reading => takeReading reading s

/-- A second tick (R176): uptime, the roster's ageing (R74), the orientation reading (R98) and the identity reading
(R126). -/
def secondTick (through : Option Int) (identity : BitVec 10) (s : State) : State :=
  headEvent (readIdentity identity.toNat) (readingAtTick through (ageRoster (countSecond s)))

/-- SECOND_TICK. -/
def execSecondTick (through : Option Int) (identity : BitVec 10) (s : State) : Result :=
  done (whenRunning (fun s => onExpiry s.supply.tickAt (secondTick through identity) s) s)

/-- ORIENTATION_CHANGE: a reading formed as an event of its own (R98, R99, R101). -/
def execOrientationChange (t : Nat) (reading : Int) (s : State) : Result :=
  done (whenRunning (takeReading reading) (s.advance t))

/-- The entry of a serial becomes STALE if it is LIVE and its age has reached the threshold (R75); then the conflict is
evaluated (R80). -/
def staleEntry (serial : Serial) (s : State) : State :=
  match s.roster.find serial with
  | none => s
  | some e => evaluateConflict (s.withEntries (replaceEntry e.settleState s.roster.entries))

/-- ENTRY_STALE (log 15). -/
def execEntryStale (serial : Serial) (s : State) : Result := done (whenRunning (staleEntry serial) s)

/-- The entry of a serial is removed if its age has reached the threshold (R76). -/
def removeEntry (serial : Serial) (s : State) : State :=
  match s.roster.find serial with
  | none => s
  | some e => if e.kept = true then s else afterRemoval (dropSerial serial s.roster.entries) s

/-- ENTRY_REMOVED (log 15). -/
def execEntryRemoved (serial : Serial) (s : State) : Result := done (whenRunning (removeEntry serial) s)

/-- The presence timer expires: it stops, and makes a routine request, or under quiet a presence owed (R114, log 13). -/
def presenceDue (s : State) : State :=
  let stopped := { s with sched := { s.sched with timer := none } }
  if s.quietHolds = true then defer stopped else routineRequest stopped

/-- PRESENCE_TIMER_EXPIRY. -/
def execPresenceTimerExpiry (s : State) : Result :=
  done (whenRunning (fun s => onExpiry s.sched.timer presenceDue s) s)

/-- QUIET_END (R121). -/
def execQuietEnd (s : State) : Result :=
  done (whenRunning (fun s => onExpiry s.sched.quietUntil endQuiet s) s)

end Sys2Proof.Machine
end

