-- ==== Sys2Proof/Machine/Dispatch.lean ====
section
/-! DEFINITION. One arm for each command of spec/opcode_table.json, in the table's order: one direct call of its meaning. -/

namespace Sys2Proof.Machine

/-- The effect of a command on everything but the queue. -/
def exec (i : Instr) (s : State) : Host.Outcome State Fault Refusal :=
  match i with
  | .lineIdle t heard => Sys2Proof.Machine.execLineIdle t heard s
  | .startLeadingEdge t dip => Sys2Proof.Machine.execStartLeadingEdge t dip s
  | .contentionLost cell dip => Sys2Proof.Machine.execContentionLost cell dip s
  | .sendMismatch half dips => Sys2Proof.Machine.execSendMismatch half dips s
  | .messageSent => Sys2Proof.Machine.execMessageSent s
  | .ownTailStart => Sys2Proof.Machine.execOwnTailStart s
  | .tailEnd r => Sys2Proof.Machine.execTailEnd r s
  | .sinkLockout drawn => Sys2Proof.Machine.execSinkLockout drawn s
  | .presence t h => Sys2Proof.Machine.execPresence t h s
  | .test t h => Sys2Proof.Machine.execTest t h s
  | .query t h => Sys2Proof.Machine.execQuery t h s
  | .quiet t h => Sys2Proof.Machine.execQuiet t h s
  | .reply t h => Sys2Proof.Machine.execReply t h s
  | .frameDiscarded t h => Sys2Proof.Machine.execFrameDiscarded t h s
  | .secondTick through identity => Sys2Proof.Machine.execSecondTick through identity s
  | .orientationChange t reading => Sys2Proof.Machine.execOrientationChange t reading s
  | .entryStale serial => Sys2Proof.Machine.execEntryStale serial s
  | .entryRemoved serial => Sys2Proof.Machine.execEntryRemoved serial s
  | .presenceTimerExpiry => Sys2Proof.Machine.execPresenceTimerExpiry s
  | .quietEnd => Sys2Proof.Machine.execQuietEnd s
  | .alarmAsserted t => Sys2Proof.Machine.execAlarmAsserted t s
  | .alarmReleased t => Sys2Proof.Machine.execAlarmReleased t s
  | .settlingEnd => Sys2Proof.Machine.execSettlingEnd s
  | .confirmedAlarm => Sys2Proof.Machine.execConfirmedAlarm s
  | .resettingEnd => Sys2Proof.Machine.execResettingEnd s
  | .recoveringEnd => Sys2Proof.Machine.execRecoveringEnd s
  | .testedLatchExpiry => Sys2Proof.Machine.execTestedLatchExpiry s
  | .shortCriterion t sides through r => Sys2Proof.Machine.execShortCriterion t sides through r s
  | .openWaitExpiry => Sys2Proof.Machine.execOpenWaitExpiry s
  | .trialExpiry => Sys2Proof.Machine.execTrialExpiry s
  | .bandLow t mV => Sys2Proof.Machine.execBandLow t mV s
  | .bandNormal t mV => Sys2Proof.Machine.execBandNormal t mV s
  | .bandCritical t mV => Sys2Proof.Machine.execBandCritical t mV s
  | .startBegin t mV kept => Sys2Proof.Machine.execStartBegin t mV kept s
  | .clockSettle => Sys2Proof.Machine.execClockSettle s
  | .loadSettings => Sys2Proof.Machine.execLoadSettings s
  | .selfTest h r => Sys2Proof.Machine.execSelfTest h r s
  | .digit t w => Sys2Proof.Machine.execDigit t w s
  | .enter t w => Sys2Proof.Machine.execEnter t w s
  | .cancel t w => Sys2Proof.Machine.execCancel t w s
  | .sound t w => Sys2Proof.Machine.execSound t w s
  | .clear t w => Sys2Proof.Machine.execClear t w s
  | .restart t w => Sys2Proof.Machine.execRestart t w s
  | .siteClear t w => Sys2Proof.Machine.execSiteClear t w s
  | .entryTimerExpiry => Sys2Proof.Machine.execEntryTimerExpiry s
  | .settingsWrite site address check => Sys2Proof.Machine.execSettingsWrite site address check s
  | .irFeedbackEnd => Sys2Proof.Machine.execIrFeedbackEnd s
  | .identifyTimerExpiry => Sys2Proof.Machine.execIdentifyTimerExpiry s
  | .lastSerialCellSent => Sys2Proof.Machine.execLastSerialCellSent s
  | .irWordDiscarded t w => Sys2Proof.Machine.execIrWordDiscarded t w s

end Sys2Proof.Machine
end

