-- ==== Sys2Proof/Safety.lean ====
section
/-! DEFINITION. The terms in which claims about the station are stated: what a request leaves in a slot and in the scheduler
(R7, R115, R120), what the LED block does at the end of a command (R186), and the properties that every step keeps, one
structure for each part of the station. -/

namespace Sys2Proof.Machine

/-! ### What a fill request and a request for a PRESENCE leave -/

/-- The slot of a kind after a fill request (R7): refused under the lockout, an empty slot is filled with abort count 0, a
message on the line has its refill mark set, a waiting message is left. -/
def slotAfterFill (s : State) (k : OutKind) : Slot :=
  if s.retained.lockout = true then s.sender.slot k
  else if (s.sender.slot k).filled = false then { filled := true, aborts := 0, refill := false }
  else if s.onLine k = true then { s.sender.slot k with refill := true }
  else s.sender.slot k

/-- The PRESENCE slot after a routine request: under quiet it is left (R120), else it is a fill request (R115). -/
def presenceAfterRoutine (s : State) : Slot :=
  if s.sched.quietUntil = none then slotAfterFill s .presence else s.sender.presence

/-- The scheduler after a routine request: under quiet a presence is owed, unless one waits in the slot (R120). -/
def schedAfterRoutine (s : State) : Scheduler :=
  if s.sched.quietUntil = none ∨ s.presenceWaits = true then s.sched else { s.sched with deferred := true }

/-- The LED block changes only in the pattern shown, which is that of the first condition present; a new pattern begins at
that moment and an old one runs on (R186). -/
def LedFollows (s t : State) : Prop :=
  t.indicator = { s.indicator with
    shown := t.firstCondition
    since := if t.firstCondition = s.indicator.shown then s.indicator.since else t.now }

/-- The PRESENCE slot after its message has been lost, or aborted with the count now `aborts` (R7, R8, R10): filled still, or
withdrawn under quiet unless an exempt request reached it (R117, R120). -/
def presenceAfterRetry (s : State) (aborts : Nat) : Slot :=
  if s.sched.quietUntil ≠ none ∧ s.sender.presence.filled = true
      ∧ s.sched.exempt = false ∧ s.sched.exemptRefill = false then { filled := false, aborts := 0, refill := false }
  else { s.sender.presence with aborts := aborts, refill := false }

/-- The scheduler after a PRESENCE has been lost or aborted below the limit: the exempt mark is set if either mark was, and a
PRESENCE withdrawn under quiet is owed (R117, R120). -/
def schedAfterRetry (s : State) : Scheduler :=
  { s.sched with
    exempt := s.sched.exempt || s.sched.exemptRefill
    exemptRefill := false
    deferred := s.sched.deferred || (s.sched.quietUntil.isSome && s.sender.presence.filled
      && !s.sched.exempt && !s.sched.exemptRefill) }

/-- The PRESENCE slot after its message has been sent or discarded: empty, or filled again by a set refill mark (R7, R11),
which quiet withdraws unless the refill is exempt (R117, R120). -/
def presenceAfterEnd (s : State) : Slot :=
  if s.sender.presence.refill = true ∧ s.retained.lockout = false
      ∧ (s.sched.quietUntil = none ∨ s.sched.exemptRefill = true) then
    { filled := true, aborts := 0, refill := false }
  else { filled := false, aborts := 0, refill := false }

/-- The scheduler after a PRESENCE has been sent or discarded at `now` (R114, R117, R120). -/
def schedAfterEnd (s : State) (now : Nat) : Scheduler :=
  { s.sched with
    timer := some (now + (seconds s.sched.interval + s.sched.offset))
    exempt := s.sched.exemptRefill
    exemptRefill := false
    deferred := s.sched.deferred || (s.sender.presence.refill && !s.retained.lockout && s.sched.quietUntil.isSome
      && !s.sched.exemptRefill) }

/-- The PRESENCE slot after an exempt request: a fill request under quiet too (R115). -/
def presenceAfterExempt (s : State) : Slot := slotAfterFill s .presence

/-- The scheduler after an exempt request (R117): the exempt-refill mark beside a PRESENCE on the line, else the exempt mark;
refused without a trace under the lockout (R123, log 14). -/
def schedAfterExempt (s : State) : Scheduler :=
  if s.retained.lockout = true then s.sched
  else if s.onLine .presence = true then { s.sched with exemptRefill := true }
  else { s.sched with exempt := true }

/-- The PRESENCE slot after quiet has ended: a presence owed is requested at once where the offset is 0 (R121). -/
def presenceAfterQuiet (s : State) : Slot :=
  if s.sched.deferred = true ∧ s.sched.offset = 0 then slotAfterFill s .presence else s.sender.presence

/-- The scheduler after quiet has ended at `now` (R121): a presence owed starts the timer for the offset alone. -/
def schedAfterQuiet (s : State) (now : Nat) : Scheduler :=
  if s.sched.deferred = true then
    { s.sched with
      quietUntil := none
      deferred := false
      timer := if s.sched.offset = 0 then none else some (now + s.sched.offset) }
  else { s.sched with quietUntil := none }

/-! ### What becomes of the sender when a message ends -/

/-- The slot of a TEST or REPLY after its message has been sent or discarded (R7, R11). -/
def slotAfterEnd (s : State) (k : OutKind) : Slot :=
  if (s.sender.slot k).refill = true ∧ s.retained.lockout = false then { filled := true, aborts := 0, refill := false }
  else { filled := false, aborts := 0, refill := false }

/-- The sender after the message of kind `k` has been lost, or aborted with the count now `aborts` (R7, R8, R10). -/
def senderAfterRetry (s : State) (k : OutKind) (aborts : Nat) : LineSender :=
  { s.sender with
    state := .waiting
    outgoing := none
    test := if k = .test then { s.sender.test with aborts := aborts, refill := false } else s.sender.test
    reply := if k = .reply then { s.sender.reply with aborts := aborts, refill := false } else s.sender.reply
    presence := if k = .presence then presenceAfterRetry s aborts else s.sender.presence }

/-- The sender after the message of kind `k` has been sent or discarded (R7, R11), in state `next` with its tail due at
`tailAt`. -/
def senderAfterEnd (s : State) (k : OutKind) (next : SenderState) (tailAt : Timer) : LineSender :=
  { s.sender with
    state := next
    outgoing := none
    tailAt := tailAt
    test := if k = .test then slotAfterEnd s .test else s.sender.test
    reply := if k = .reply then slotAfterEnd s .reply else s.sender.reply
    presence := if k = .presence then presenceAfterEnd s else s.sender.presence }

/-- The sender after a tail has ended at `moment`: the line comes back from an own tail (R41). -/
def senderAfterTail (s : State) (moment : Nat) : LineSender :=
  if s.sender.state = .tail ∧ s.sender.tailAt = some moment then { s.sender with state := .waiting, tailAt := none }
  else s.sender

/-- The receiver once sink has been heard at `moment`: no idle is judged before 6 ms after it (R5). -/
def receiverAfterSink (x : Receiver) (moment : Nat) : Receiver :=
  { x with idleNotBefore := max x.idleNotBefore (moment + 6000) }

/-- The receiver after a tail has ended at `moment`: the last sink of an own tail was in period 62 (R40, R41), and the
V-channel heard it if no idle has been judged since the own tail began (R5, R47; log 39). -/
def receiverAfterTail (s : State) (moment : Nat) : Receiver :=
  if s.sender.state = .tail ∧ s.sender.tailAt = some moment ∧ s.rx.idleInTail = false then
    receiverAfterSink s.rx (moment - 2000)
  else s.rx

/-- The tail that ends first ends at `moment`: no own tail ends before it (R41). -/
def NoOwnTailBefore (s : State) (moment : Nat) : Prop :=
  ∀ e, s.sender.state = .tail → s.sender.tailAt = some e → moment ≤ e

/-- The station does not have the line: no message of its own is on it, and no quiet cells of its own follow one (R5,
R11). In its own tail it can judge an idle (R5, R47). -/
def LineFree (s : State) : Prop := s.sender.outgoing = none ∧ s.sender.state ≠ .quietCells

/-- The receiver as a frame begins at `now` (R5, R14, R101): not idle, no idle before 6 ms after the end of the 22 ms of the
contention field, the orientation and the isolator noted. -/
def receiverAtStart (s : State) (now : Nat) : Receiver :=
  { s.rx with
    idle := false
    idleNotBefore := now + 28000
    underWay := some {
      startedAt := now
      orientation := s.port.orientation
      mutedAtStart := decide (s.isolator.state ≠ .closed)
      crossings := [] } }

/-- The station as it begins the START cell of a message at an idle judged at `now` (R5, R8). -/
def startedMessage (s : State) (now : Nat) (k : OutKind) (fields : List Byte) (tail : Bool) : State :=
  { s with
    now := now
    rx := { receiverAtStart s now with awaiting := s.rx.awaiting ++ s.rx.underWay.toList }
    sender := { s.sender with
      state := .contending
      outgoing := some { kind := k, fields := fields, soundFollows := tail, startedAt := now } } }

/-! ### Frames heard -/

/-- The oldest frame that an idle has ended is `f`, and it can be decided with the hearing `h`: it announces no tail, and its
last sink lies 6 ms or more before `now` (R5, R16). -/
def EndedFrameAtHand (s : State) (now : Nat) (f : RxFrame) (h : Heard) : Prop :=
  (∃ rest, s.rx.awaiting = f :: rest) ∧ (decideFrame f h).announcesTail = false ∧ f.lastSink h + 6000 ≤ now

/-- The frame under way is `f`, not the station's own, and it can be decided with the hearing `h`: it is accepted as `g`,
which announces a tail, and its CHECK cell ends at `now` (R6, R16, R17, R38). -/
def TailFrameAtHand (s : State) (now : Nat) (f : RxFrame) (h : Heard) : Prop :=
  s.rx.underWay = some f ∧ s.sender.outgoing = none ∧ (∀ x, ¬EndedFrameAtHand s now x h) ∧
  ∃ g via iDamaged, decideFrame f h = .accepted g via iDamaged ∧ g.announcesTail = true ∧
    f.startedAt + 500 * (44 + 8 * (g.fields.length + 2)) = now

/-- The frame `f` is at hand to be decided at `now` with the hearing `h` (R16, R17; the order of frames: log 8). -/
def FrameAtHand (s : State) (now : Nat) (f : RxFrame) (h : Heard) : Prop :=
  EndedFrameAtHand s now f h ∨ TailFrameAtHand s now f h

/-- The receiver without the frame `f` that has been decided with the hearing `h`: one that announces a tail was under
way, and no idle is judged before 6 ms after its last sink; any other was the oldest that awaited its decision (R5, R16).
-/
def withoutFrame (x : Receiver) (f : RxFrame) (h : Heard) : Receiver :=
  if (decideFrame f h).announcesTail = true then { receiverAfterSink x (f.lastSink h) with underWay := none }
  else { x with awaiting := x.awaiting.drop 1 }

/-- The receiver after a frame has been delivered (R18): good rises by 1, held at 65535, and I_DAMAGED is noted. -/
def receiverAfterGood (x : Receiver) (f : RxFrame) (h : Heard) (iDamaged : Bool) : Receiver :=
  { withoutFrame x f h with
    good := if x.good < 65535 then x.good + 1 else x.good
    lastDamage := if iDamaged = true then .iDamaged else x.lastDamage }

/-- The command by which a received message is decided. -/
def commandOf (m : Message) (t : Nat) (h : Heard) : Instr :=
  match m with
  | .presence _ => .presence t h
  | .test _ _ _ _ => .test t h
  | .query _ _ _ => .query t h
  | .quiet _ => .quiet t h
  | .reply => .reply t h

/-- A QUERY concerns the station (R152). -/
def QueryConcerns (s : State) (selector : Selector) (item : Nat) : Prop :=
  match selector with
  | .serial x => x = s.settings.serial
  | .address a => a = s.settings.address
  | .all => item = 0 ∨ item = 3 ∨ item = 4

/-- The entry that a message makes of `old`, but for its relation: age 0, LIVE, the heard-via, and what a message of each
kind writes (R65, R67 to R70, R72). -/
def entryAfter (m : Message) (via : Via) (old : Entry) : Entry :=
  match m with
  | .presence p => { old with
      state := .live, via := via, age := 0
      address := p.address, interval := p.interval, depth := p.depth, headState := p.headState
      testState := p.testState, uptime := some p.uptime
      restarts := match old.uptime with
        | some x => if p.uptime < x ∧ old.restarts < 15 then old.restarts + 1 else old.restarts
        | none => old.restarts }
  | .test address kind _ _ => { old with
      state := .live, via := via, age := 0, address := address
      testState := if kind = .stuck then .stuck else .passed }
  | .reply => { old with state := .live, via := via, age := 0 }
  | .query _ _ _ => old
  | .quiet _ => old

/-- The entry of a newcomer before its message is applied: address 0, interval 155, depth and uptime absent, head byte 0, no
figures, restarts 0 (R65, R71). -/
def newcomer (sender : Serial) (via : Via) : Entry where
  serial := sender
  address := 0
  state := .live
  via := via
  age := 0
  interval := 155
  depth := none
  uptime := none
  headState := .noHead
  testState := .notTested
  shared := none
  through := none
  quality := 0
  relation := .unmeasured
  restarts := 0

/-- The roster's part of a message taken in: the sender's entry is `new` but for its relation, every other serial finds what
it found, and ROSTER_FULL and SERIAL_CLASH stay. A change between CONFLICT shown and not shown is a routine request (R82);
nothing else changes in the sender or the scheduler. -/
def RosterTook (s t : State) (new : Entry) : Prop :=
  (∃ r, t.roster.find new.serial = some { new with relation := r }) ∧
  (∀ x, x ≠ new.serial → t.roster.find x = s.roster.find x) ∧
  t.roster.full = s.roster.full ∧ t.roster.clash = s.roster.clash

/-- A routine request was made exactly when CONFLICT changed between shown and not shown (R82). -/
def AskedOnConflictChange (s t : State) : Prop :=
  if t.roster.conflict.isSome = s.roster.conflict.isSome then t.sender = s.sender ∧ t.sched = s.sched
  else t.sender = { s.sender with presence := presenceAfterRoutine s } ∧ t.sched = schedAfterRoutine s

/-- The journal after an entry has been written (R147). -/
def journalAfter (j : Journal) (e : JournalEntry) : Journal :=
  if j.entries.length < 64 then { entries := j.entries ++ [e], wrapped := j.wrapped }
  else { entries := j.entries.drop 1 ++ [e], wrapped := true }

/-- The journal after a message of a peer has been taken in: a TEST is journalled, whatever the roster makes of it (R79,
R145). -/
def journalAfterMessage (s : State) (sender : Serial) (m : Message) : Journal :=
  match m with
  | .test address kind number typeTested =>
    journalAfter s.journal {
      heardAt := s.supply.uptime, serial := sender, address := address, kind := kind, number := number
      typeTested := typeTested, source := .peer }
  | .presence _ => s.journal
  | .query _ _ _ => s.journal
  | .quiet _ => s.journal
  | .reply => s.journal

/-- The sounding unit after a message of a peer has been taken in at `now`: a PRESENCE that announces a tail begins an
observation with the brought-in trim, whatever the roster makes of it, while the isolator is CLOSED and none is under way
(R44, R45, R79). -/
def soundingAfterMessage (s : State) (now : Nat) (sender : Serial) (m : Message) : Sounding :=
  match m with
  | .presence p =>
    if p.soundFollows = true ∧ s.isolator.state = .closed ∧ s.sounding.obs = none then
      { s.sounding with obs := some {
        peer := some sender
        trim := p.trim
        noted := s.port.orientation
        low := decide (s.supply.band ≠ .normal)
        flipped := false
        tailFrom := now + 1000
        firstSample := now + 2000
        endsAt := now + 129000 } }
    else s.sounding
  | .test _ _ _ _ => s.sounding
  | .query _ _ _ => s.sounding
  | .quiet _ => s.sounding
  | .reply => s.sounding

/-- The kinds of message that the roster takes in (R67). -/
def RosterKind (m : Message) : Prop :=
  match m with
  | .presence _ => True
  | .test _ _ _ _ => True
  | .reply => True
  | .query _ _ _ => False
  | .quiet _ => False

/-! ### The second tick (R74 to R76, R126, R176) -/

/-- `value` is the identity value of an identity code, by the bands of R126. -/
def IdentityIs (code : Nat) (value : Identity) : Prop :=
  (code ≤ 39 ∧ value = .fault) ∨ (40 ≤ code ∧ code ≤ 199 ∧ value = .head .optical) ∨
  (200 ≤ code ∧ code ≤ 399 ∧ value = .head .heatFixed) ∨ (400 ≤ code ∧ code ≤ 599 ∧ value = .head .heatRise) ∨
  (600 ≤ code ∧ code ≤ 799 ∧ value = .head .multi) ∨ (800 ≤ code ∧ code ≤ 959 ∧ value = .fault) ∨
  (960 ≤ code ∧ value = .noHead)

/-- An age after one more second, held at 65535 (R74). -/
def ageAfter (e : Entry) : Nat := if e.age < 65535 then e.age + 1 else e.age

/-- The entries after a second tick: every age raised, a LIVE entry STALE from 2 × interval + 10 on, an entry gone from 8 ×
interval on (R74 to R76). -/
def entriesAfterTick (es : List Entry) : List Entry :=
  (es.map fun e => { e with
      age := ageAfter e
      state := if e.state = .live ∧ 2 * e.interval + 10 ≤ ageAfter e then .stale else e.state }).filter
    fun e => decide (e.age < 8 * e.interval)

/-- The station after a second tick at `m`: uptime, next tick, and the roster aged, with the head supervisor as `head` and
the parts that requests for a PRESENCE reach as in `u` (R74 to R76, R78, R176). -/
def afterTick (s : State) (m : Nat) (head : Head) (u : State) : State :=
  { s with
    now := m
    supply := { s.supply with
      uptime := if s.supply.uptime < 16777215 then s.supply.uptime + 1 else s.supply.uptime
      tickAt := some (m + 1000000) }
    roster := { s.roster with
      entries := entriesAfterTick s.roster.entries
      full := if s.roster.entries.length = 250 ∧ (entriesAfterTick s.roster.entries).length < 250 then false
        else s.roster.full
      conflict := u.roster.conflict }
    head := head
    sender := u.sender
    sched := u.sched
    indicator := u.indicator }

/-! ### IR words (R177, R178) -/

/-- A word passes the four steps of R177. -/
def WordPasses (s : State) (w : IrWord) : Prop :=
  s.ir.mode ≠ .storing ∧ w.extractLsb' 0 8 = ~~~(w.extractLsb' 24 8 ^^^ w.extractLsb' 16 8 ^^^ w.extractLsb' 8 8) ∧
    (s.settings.site = 0 ∨ w.extractLsb' 16 16 = s.settings.site) ∧ (w.extractLsb' 8 7).toNat ≤ 15

/-- A word that arrives at `now` carries the toggle of the last valid word and comes within 200 ms of it (R178). -/
def WordContinues (s : State) (now : Nat) (w : IrWord) : Prop :=
  ∃ last, s.ir.lastValid = some last ∧ last.toggle = w.getLsbD 15 ∧ now ≤ last.arrived + 200000

/-- A word that arrives at `now` is an accepted key (R178). -/
def AcceptedKey (s : State) (now : Nat) (w : IrWord) (key : Nat) : Prop :=
  WordPasses s w ∧ ¬WordContinues s now w ∧ (w.extractLsb' 8 7).toNat = key

/-- A word that arrives at `now` is a repeat of a key (R178). -/
def RepeatedKey (s : State) (now : Nat) (w : IrWord) (key : Nat) : Prop :=
  WordPasses s w ∧ WordContinues s now w ∧ (w.extractLsb' 8 7).toNat = key

/-- The IR port after an accepted key of a word that arrives at `now` (R178): a press has begun, the three flags are
clear, the word is the last valid word; the entry state, what is staged, and the entry timer are as the key leaves them
(R180). -/
def portAfterKey (s : State) (now : Nat) (w : IrWord) (mode : EntryMode) (staged : Option Staged) (timer : Timer) :
    IrPort :=
  { s.ir with
    mode := mode
    staged := staged
    entryTimer := timer
    press := some { key := (w.extractLsb' 8 7).toNat, since := now }
    lastValid := some { toggle := w.getLsbD 15, arrived := now }
    checkError := false
    siteMismatch := false
    overflow := false }

/-! ### Observations decided (R46 to R51) -/

/-- How many samples of each channel have been taken by `now`: the first at the first sample's moment, one every 2 ms, 64 in
all (R40, R42). -/
def samplesBy (o : Observation) (now : Nat) : Nat :=
  if now < o.firstSample then 0 else min 64 ((now - o.firstSample) / 2000 + 1)

/-- The sounding unit once an observation has ended at `now` before its tail has: the samples taken by then stand in their
places of the store, and no figure has changed (R42, R45; log 19). -/
def soundingCut (x : Sounding) (o : Observation) (r : TailReadings) (now : Nat) : Sounding :=
  { x with
    obs := none
    vStore := (vSamples r).take (samplesBy o now) ++ x.vStore.drop (samplesBy o now)
    iStore := (iSamples o.noted r).take (samplesBy o now) ++ x.iStore.drop (samplesBy o now) }

/-- A sample in a store is clipped (R42). -/
def SomeClipped (v i : List Int) : Prop := ∃ x ∈ v ++ i, x = -2048 ∨ x = 2047

/-- The groups disagree by more than the allowed spread (R50). -/
def Disturbed (v : List Int) : Prop := 64 + ((vAccumulation v).natAbs / 64 : Nat) < spread v

/-- The check that fails first, in the order LOW_SUPPLY, CLIPPED, DISTURBED, NO_DIP (R46). -/
def RejectedAs (low : Bool) (v i : List Int) (k : RejectionKind) : Prop :=
  (low = true ∧ k = .lowSupply) ∨
  (low = false ∧ SomeClipped v i ∧ k = .clipped) ∨
  (low = false ∧ ¬SomeClipped v i ∧ Disturbed v ∧ k = .disturbed) ∨
  (low = false ∧ ¬SomeClipped v i ∧ ¬Disturbed v ∧ vAccumulation v ≤ 0 ∧ k = .noDip)

/-- Every check passes (R46). -/
def AcceptedObservation (low : Bool) (v i : List Int) : Prop :=
  low = false ∧ ¬SomeClipped v i ∧ ¬Disturbed v ∧ 0 < vAccumulation v

/-- `q` is the quotient of `n` by `d` rounded half-up (R52). -/
def HalfUp (n d q : Nat) : Prop := 2 * q * d ≤ 2 * n + d ∧ 2 * n + d < 2 * (q + 1) * d

/-- The I accumulation as used (R43, R54): its magnitude under a noted UNKNOWN. -/
def UsedAccumulation (noted : Orientation) (i : List Int) : Int :=
  if noted = .unknown then ((iAccumulation i).natAbs : Int) else iAccumulation i

/-- The depth sample of an accepted observation (R53). -/
def DepthSampleIs (trim : Nat) (v : List Int) (x : Nat) : Prop := HalfUp ((vAccumulation v).toNat * 3125) (4 * trim) x

/-- The fraction sample of an accepted observation (R54): 0 when the accumulation is not positive, held at 1000. -/
def FractionSampleIs (trim : Nat) (c : Int) (x : Nat) : Prop :=
  (c ≤ 0 ∧ x = 0) ∨ (0 < c ∧ ∃ q, HalfUp (c.toNat * 625) (2 * trim) q ∧ x = if 1000 < q then 1000 else q)

/-- A running figure after a new sample (R56, R58). -/
def figureAfter (quality : Nat) (old : Option Nat) (x : Nat) : Option Nat :=
  if quality = 0 then some x else some ((3 * old.getD x + x + 2) / 4)

/-- A quality after one more observation, held at 15 (R56, R58). -/
def qualityAfter (quality : Nat) : Nat := if quality < 15 then quality + 1 else quality

/-- SENSE_FAULT without an own merge of the moment `now` under the present orientation, which a flip at that moment drops
(R43, R59, R85). -/
def faultWithoutMerge (s : State) (now : Nat) : Bool :=
  match s.sounding.ownMerge with
  | none => s.sounding.senseFault
  | some m => if m.decidedAt = now ∧ m.noted = s.port.orientation then m.faultBefore else s.sounding.senseFault

/-! ### The alarm line (R124, R125) -/

/-- What the head last did on its filtered alarm line lies at least the 50 ms of the filter before `now`, and so does the
return of its supply (R125; log 47). -/
def AlarmFiltered (s : State) (now : Nat) : Prop := s.head.alarmFrom + 50000 ≤ now

/-- The head once its supply is on, from `now` on if it was off before (R124, R125). -/
def headSupplied (h : Head) (now : Nat) : Head :=
  { h with supply := true, alarmFrom := if h.supply = true then h.alarmFrom else now }

/-! ### The blocks of a station that does not run (R19, R63, R88, R109, R110, R142, R150, R151, R162, R184, R185) -/

/-- Before RUNNING and while held in reset every block that a start clears holds its value "at every start". The offset is
fixed by the serial at LOAD_SETTINGS, and the sender is WAITING or LOCKED. -/
def StartValues (s : State) : Prop :=
  s.supply.phase ≠ .running →
    s.rx = {} ∧ s.sender = { state := s.sender.state } ∧ s.sounding = {} ∧ s.roster = {} ∧
    s.sched = { offset := s.sched.offset } ∧ s.head = {} ∧ s.journal = {} ∧ s.reply = {} ∧ s.isolator = {} ∧ s.ir = {} ∧
    s.port = { cutoffOpen := s.port.cutoffOpen, guardFrom := s.port.guardFrom } ∧
    s.indicator.feedback = none ∧ s.indicator.identify = none ∧
    s.supply.uptime = 0 ∧ s.supply.tickAt = none

/-! ### The roster (R64, R66, R80, R81, R89 to R92) -/

/-- Entry `a` stands before entry `b` in the order of R66. -/
def Precedes (a b : Entry) : Prop :=
  match a.depth, b.depth with
  | some x, some y => x < y ∨ (x = y ∧ a.serial.toNat < b.serial.toNat)
  | some _, none => True
  | none, some _ => False
  | none, none => a.serial.toNat < b.serial.toNat

/-- The roster holds at most 250 entries in the order of R66, one for a serial and none under the own serial (R64), and none
before RUNNING (R88). -/
structure RosterFits (s : State) : Prop where
  room : s.roster.entries.length ≤ 250
  ordered : s.roster.entries.Pairwise Precedes
  oneForASerial : s.roster.entries.Pairwise fun a b => a.serial ≠ b.serial
  noneOwn : ∀ e ∈ s.roster.entries, e.serial ≠ s.settings.serial
  emptyAtStart : s.supply.phase ≠ .running → s.roster.entries = []

/-- An entry that conflicts with an own address (R80). -/
def ConflictsWith (address : Nat) (e : Entry) : Prop := e.state = .live ∧ e.address = address

/-- CONFLICT is shown exactly when the own address is not 0 and a LIVE entry carries it, and the conflict serial is that
of the first such entry (R80, R81). -/
def ConflictFits (s : State) : Prop :=
  match s.roster.conflict with
  | none => s.settings.address = 0 ∨ ∀ e ∈ s.roster.entries, ¬ConflictsWith s.settings.address e
  | some serial => s.settings.address ≠ 0 ∧
      ∃ front e back, s.roster.entries = front ++ e :: back ∧ e.serial = serial ∧
        ConflictsWith s.settings.address e ∧ ∀ x ∈ front, ¬ConflictsWith s.settings.address x

/-- The relation that R91 and R92 give to own depth `d`, announced depth `k`, shared depth `x` and through fraction `phi`,
with the tolerance of R89. -/
def RelationIs (d k x phi : Nat) (r : Relation) : Prop :=
  let tol : Nat := 5 + max d k / 100
  (250 < phi ∧ phi < 750 ∧ r = .split) ∨
  (750 ≤ phi ∧ (d ≤ x + tol ∧ x ≤ d + tol ∧ d ≤ k + tol) ∧ r = .downstream) ∨
  (750 ≤ phi ∧ ¬(d ≤ x + tol ∧ x ≤ d + tol ∧ d ≤ k + tol) ∧ r = .inconsistent) ∨
  (phi ≤ 250 ∧ x + tol < min d k ∧ r = .branched) ∨
  (phi ≤ 250 ∧ ¬x + tol < min d k ∧ (x ≤ k + tol ∧ k ≤ x + tol ∧ k ≤ d + tol) ∧ r = .upstream) ∨
  (phi ≤ 250 ∧ ¬x + tol < min d k ∧ ¬(x ≤ k + tol ∧ k ≤ x + tol ∧ k ≤ d + tol) ∧ r = .inconsistent)

/-- Every entry, LIVE or STALE, holds the relation that the figures now standing give it (R90 to R92, R95): UNMEASURED with
one of the four absent or SENSE_FAULT set. -/
def RelationsFit (s : State) : Prop :=
  ∀ e ∈ s.roster.entries,
    (s.sounding.senseFault = true ∨ s.sounding.ownDepth = none ∨ e.depth = none ∨ e.shared = none ∨ e.through = none →
      e.relation = .unmeasured) ∧
    ∀ d k x phi, s.sounding.senseFault = false → s.sounding.ownDepth = some d → e.depth = some k → e.shared = some x →
      e.through = some phi → RelationIs d k x phi e.relation

/-! ### Figures (R30, R36, R56, R58, R183) -/

/-- An optional figure that does not exceed `top`. -/
def AtMost (top : Nat) (x : Option Nat) : Prop := ∀ n, x = some n → n ≤ top

/-- The fields of an entry lie in the ranges of the table before R64, and S and Φ are present exactly when the quality is
1 or more (R56). -/
structure EntryInRange (e : Entry) : Prop where
  address : e.address ≤ 240
  age : e.age ≤ 65535
  interval : 30 ≤ e.interval ∧ e.interval ≤ 155
  depth : AtMost 11375 e.depth
  uptime : AtMost 16777215 e.uptime
  shared : AtMost 11375 e.shared
  through : AtMost 1000 e.through
  quality : e.quality ≤ 15
  sharedPresent : e.shared.isSome = true ↔ 1 ≤ e.quality
  throughPresent : e.through.isSome = true ↔ 1 ≤ e.quality
  restarts : e.restarts ≤ 15

/-- A trim lies in the factory range (R1, R30, R183). -/
def TrimInRange (trim : Nat) : Prop := 9000 ≤ trim ∧ trim ≤ 11000

/-- Every figure lies in its range: the entries', the own depth with its quality (R58), the trim in use and the trim of an
observation under way (R55), the stored address and one being written (R180, R182). -/
structure FiguresFit (s : State) : Prop where
  entries : ∀ e ∈ s.roster.entries, EntryInRange e
  ownDepth : AtMost 11375 s.sounding.ownDepth
  ownQuality : s.sounding.ownQuality ≤ 15
  ownPresent : s.sounding.ownDepth.isSome = true ↔ 1 ≤ s.sounding.ownQuality
  trim : TrimInRange s.settings.trim
  observed : ∀ o, s.sounding.obs = some o → TrimInRange o.trim
  address : s.settings.address ≤ 240
  written : ∀ x, s.ir.write = some x → x.address ≤ 240

/-! ### The journal (R143, R146, R147, R150, R176) -/

/-- At most 64 entries, their heard-at never decreasing and none later than the uptime, 64 of them once WRAPPED; none before
RUNNING; the uptime holds at its top. -/
structure JournalFits (s : State) : Prop where
  room : s.journal.entries.length ≤ 64
  ordered : s.journal.entries.Pairwise fun a b => a.heardAt ≤ b.heardAt
  stamped : ∀ e ∈ s.journal.entries, e.heardAt ≤ s.supply.uptime
  wrappedFull : s.journal.wrapped = true → s.journal.entries.length = 64
  emptyAtStart : s.supply.phase ≠ .running → s.journal.entries = []
  uptime : s.supply.uptime ≤ 16777215

/-! ### The line sender (R7, R12, R13, R120, R151, table after R11) -/

/-- A slot: an empty one has no abort count and no refill mark, and no count reaches 8 (R7, R11). -/
def SlotFits (x : Slot) : Prop := x.aborts < 8 ∧ (x.filled = false → x.aborts = 0 ∧ x.refill = false)

/-- What the sender's parts say of each other. -/
structure SenderFits (s : State) : Prop where
  slots : ∀ k, SlotFits (s.sender.slot k)
  locked : s.sender.state = .locked ↔ s.retained.lockout = true
  cutoff : s.port.cutoffOpen = s.retained.lockout
  silent : s.retained.lockout = true → ∀ k, (s.sender.slot k).filled = false
  onLine : s.sender.outgoing.isSome = true ↔ (s.sender.state = .contending ∨ s.sender.state = .payload)
  itsSlot : ∀ o, s.sender.outgoing = some o → (s.sender.slot o.kind).filled = true
  refill : ∀ k, (s.sender.slot k).refill = true → s.onLine k = true
  tail : s.sender.tailAt.isSome = true ↔ (s.sender.state = .quietCells ∨ s.sender.state = .tail)
  record : s.reply.record.isSome = true ↔ s.sender.reply.filled = true
  noSecondReply : s.sender.reply.refill = false
  held : s.sched.quietUntil.isSome = true → s.presenceWaits = true → s.sched.exempt = true
  atStart : s.supply.phase ≠ .running → s.sender.outgoing = none ∧ s.sender.tailAt = none ∧
    ∀ k, (s.sender.slot k).filled = false

/-! ### The head supervisor (R124 to R139) -/

/-- What the head supervisor's parts say of each other. -/
structure HeadFits (s : State) : Prop where
  supply : s.supply.phase = .running → (s.head.supply = true ↔ s.head.state ≠ .resetting)
  line : s.head.supply = false → s.head.alarm = false
  ready : s.head.state = .ready → s.head.alarm = false
  confirming : s.head.state = .confirming → s.head.alarm = true
  timer : s.head.timer.isSome = true ↔ (s.head.state = .settling ∨ s.head.state = .confirming ∨
    s.head.state = .resetting ∨ s.head.state = .recovering)
  empty : s.head.state = .noHead ↔ s.head.identity = .noHead
  faulty : s.head.state = .fault ↔ s.head.identity = .fault
  type : ∀ x, s.head.headType = some x ↔ s.head.identity = .head x
  cyclesFew : s.head.cycles ≤ 3
  cyclesStuck : s.head.cycles = 3 ↔ s.head.state = .stuck
  cyclesNone : s.head.cycles = 0 ∨ s.head.state = .resetting ∨ s.head.state = .recovering ∨ s.head.state = .stuck
  tested : s.head.record.state ≠ .notTested ↔ s.head.record.number.isSome = true
  typed : s.head.record.state ≠ .notTested ↔ s.head.record.type.isSome = true
  number : ∀ n, s.head.record.number = some n → 1 ≤ n ∧ n ≤ 255
  proved : (s.head.state = .resetting ∨ s.head.state = .recovering ∨ s.head.state = .stuck) →
    s.head.record.state ≠ .notTested
  event : ∀ e, s.head.lastEvent = some e → 1 ≤ e.number ∧ e.number ≤ 255
  announced : s.sender.test.filled = true ∨ s.sender.test.refill = true → s.head.lastEvent.isSome = true
  atStart : s.supply.phase ≠ .running → s.head = {} ∧ s.sender.test = {}

/-! ### The isolator (table before R162) -/

/-- The isolator state, its timer and its count agree as the table before R162 gives them; CLOSED at every start. -/
structure IsolatorFits (s : State) : Prop where
  closed : s.isolator.state = .closed → s.isolator.failed = 0 ∧ s.isolator.timer = none
  waiting : s.isolator.state = .openWait → s.isolator.failed ≤ 2 ∧ s.isolator.timer.isSome = true
  trying : s.isolator.state = .trial → s.isolator.failed ≤ 2 ∧ s.isolator.timer.isSome = true
  latched : s.isolator.state = .latched → s.isolator.failed = 3 ∧ s.isolator.timer = none
  atStart : s.supply.phase ≠ .running → s.isolator.state = .closed
  unobserved : s.isolator.state ≠ .closed → s.sounding.obs = none

end Sys2Proof.Machine
end

