-- ==== Sys2Proof/Certificates/Slice0/Obligations.lean ====
section
/-! DEFINITION. The statements for the provers. In each of them `exec c s = .next u` with `u = { s with … }` says the result
and the frame at once: a field that is not named is unchanged, and a field named as `u.field` is said by the clauses beside
it. `LedFollows s u` says of the LED block that only the pattern shown may change (R186). In all of them the time base
`now` and what a command makes of it are the model's form (log 2), a command whose condition does not hold changes nothing
but that (log 28), and two events of one moment are taken in the order of the queue (log 26). -/

open Sys2Proof Sys2Proof.Machine

/-! ### The machine as a whole -/

/-- A step takes the command at the front of the queue and runs it with the queue's rest (the queue is the model's:
log 26). -/
def Obligations.StepRunsFrontCommand : Prop :=
  ∀ (c : Instr) (rest : List Instr) (s : State),
    s.pending = c :: rest → step s = exec c { s with pending := rest }

/-- No step faults or refuses, none touches the rest of the queue, none turns the time base back, and on an empty queue
the station idles. The model's choice where the manual has no queue and no order of time among commands: log 2, 28, 29,
32. -/
def Obligations.EveryStepAnswersNext : Prop :=
  ∀ s : State, ∃ u, step s = .next u ∧ u.pending = s.pending.tail ∧ s.now ≤ u.now ∧ (s.pending = [] → u = s)

/-- R186, of every command in every state: a station that is not held in reset shows the pattern of the first condition
present in the list; while it runs, a pattern that changes begins at that moment, and a pattern that stays runs on, but
for a feedback given again, which begins again (R185). -/
def Obligations.LedShowsFirstCondition : Prop :=
  ∀ (c : Instr) (s u : State), exec c s = .next u →
    (u.supply.phase ≠ .held →
      u.indicator.shown =
        if u.retained.lockout = true then .lockout
        else if u.indicator.identify ≠ none then .identify
        else match u.indicator.feedback with
          | some f => if f.kind = .acknowledge then .acknowledge else .error
          | none =>
            if u.ir.mode = .entering then .entering
            else if u.head.state = .stuck then .stuck
            else if u.roster.conflict ≠ none then .conflict
            else if u.head.testedLatch ≠ none then .tested
            else if u.settings.address = 0 then .unaddressed
            else .normal) ∧
    (s.supply.phase = .running → u.supply.phase = .running → u.indicator.shown ≠ s.indicator.shown →
      u.indicator.since = u.now) ∧
    (s.supply.phase = .running → u.supply.phase = .running → u.indicator.shown = s.indicator.shown →
      u.indicator.since = s.indicator.since ∨
        (u.indicator.since = u.now ∧
          ((u.indicator.shown = .error ∧
              u.indicator.feedback = some { kind := .error, endsAt := u.now + 1000000 }) ∨
            (u.indicator.shown = .acknowledge ∧
              u.indicator.feedback = some { kind := .acknowledge, endsAt := u.now + 600000 }))))

/-- The station after reset: the beginning of its first start. That State.reset is that moment, and the values of the
serial, trim, site, address, candidate, NV areas and time base there, are the model's (log 1, 2, 3, 4, 5, 6, 17); the
others are those of R13, R19, R45, R88, R110, R142, R150, R151, R162, R169, R172, R173, R184, R185. -/
def Obligations.ResetValues : Prop :=
  State.reset.retained = { mark := true, lockout := false } ∧ State.reset.port.cutoffOpen = false ∧
  State.reset.port.orientation = .unknown ∧ State.reset.port.run = 0 ∧
  State.reset.rx.idle = false ∧ State.reset.rx.underWay = none ∧
  State.reset.rx.good = 0 ∧ State.reset.rx.damaged = 0 ∧ State.reset.rx.foreign = 0 ∧
  State.reset.rx.lastDamage = .noDamage ∧ State.reset.sender.state = .waiting ∧
  (∀ k, State.reset.sender.slot k = { filled := false, aborts := 0, refill := false }) ∧
  State.reset.sounding.obs = none ∧ State.reset.sounding.ownDepth = none ∧ State.reset.sounding.ownQuality = 0 ∧
  State.reset.sounding.senseFault = false ∧ State.reset.sounding.lastRejection = .noRejection ∧
  State.reset.roster = { entries := [], full := false, clash := false, conflict := none } ∧
  State.reset.sched.timer = none ∧ State.reset.sched.interval = 30 ∧ State.reset.sched.quietUntil = none ∧
  State.reset.sched.deferred = false ∧ State.reset.sched.exempt = false ∧ State.reset.sched.exemptRefill = false ∧
  State.reset.head.supply = false ∧ State.reset.head.identity = .noHead ∧ State.reset.head.state = .noHead ∧
  State.reset.head.record = { state := .notTested, number := none, type := none } ∧
  State.reset.head.lastEvent = none ∧ State.reset.head.testedLatch = none ∧ State.reset.head.cycles = 0 ∧
  State.reset.journal = { entries := [], wrapped := false } ∧ State.reset.reply.record = none ∧
  State.reset.isolator = { state := .closed, failed := 0, timer := none } ∧
  State.reset.supply.band = .low ∧ State.reset.supply.cause = .powerOn ∧ State.reset.supply.phase = .clockSettle ∧
  State.reset.supply.phaseTimer = some 20000 ∧ State.reset.supply.uptime = 0 ∧ State.reset.supply.tickAt = none ∧
  State.reset.supply.selftestFail = false ∧ State.reset.ir.mode = .idle ∧ State.reset.ir.staged = none ∧
  State.reset.ir.press = none ∧ State.reset.indicator.feedback = none ∧ State.reset.indicator.identify = none ∧
  State.reset.pending = []

/-- The station after reset has every property that every step keeps. That State.reset is the beginning of a first start,
the trim and the address in use before they are read, and the values StartValuesKept names as the model's are its choice
(log 1, 5, 16, 17, 19, 39, 47, 48). -/
def Obligations.ResetHasEveryProperty : Prop :=
  StartValues State.reset ∧ RosterFits State.reset ∧ ConflictFits State.reset ∧ RelationsFit State.reset ∧
  FiguresFit State.reset ∧ JournalFits State.reset ∧ SenderFits State.reset ∧ HeadFits State.reset ∧
  IsolatorFits State.reset

/-! ### Properties that every step keeps -/

/-- A station that does not run holds the start values in every block that a start clears (R19, R63, R88, R109, R110,
R142, R150, R151, R162, R184, R185). Among these values the candidate UNKNOWN (log 17) and what the model itself keeps are
its choice: the cleared store held as no samples (log 19), the moment readings count from (log 16), that from which an
idle can be judged, with no idle noted in an own tail (log 39), that from which the alarm line has its level (log 47), and
no own merge (log 48). -/
def Obligations.StartValuesKept : Prop :=
  ∀ s u : State, StartValues s → step s = .next u → StartValues u

/-- The roster keeps its size, its order, one entry for a serial and none under the own serial (R64, R66). -/
def Obligations.RosterOrderKept : Prop :=
  ∀ s u : State, RosterFits s → step s = .next u → RosterFits u

/-- CONFLICT and the conflict serial are those of R80 and R81 after every step, in a station whose roster is empty before
RUNNING (R88). -/
def Obligations.ConflictKept : Prop :=
  ∀ s u : State, RosterFits s → ConflictFits s → step s = .next u → ConflictFits u

/-- Every relation is the one that the figures now standing give, after every step (R90 to R92, R95). -/
def Obligations.RelationsKept : Prop :=
  ∀ s u : State, RelationsFit s → step s = .next u → RelationsFit u

/-- Every figure stays in its range (R30, R53, R54, R56, R58). Where a start has not read the NV yet, the trim and the
address in use are the model's (log 5). -/
def Obligations.FiguresInRangeKept : Prop :=
  ∀ s u : State, FiguresFit s → step s = .next u → FiguresFit u

/-- The journal keeps at most 64 entries, their heard-at never decreasing (R146), and WRAPPED only when full (R147). -/
def Obligations.JournalOrderKept : Prop :=
  ∀ s u : State, JournalFits s → step s = .next u → JournalFits u

/-- The sender's state, slots, message, tail, lockout and reply record agree, and under quiet only an exempt PRESENCE
waits (R7, R12, R13, R120, R151). The sender state of the two quiet cells is the model's (log 40). -/
def Obligations.SenderAgreementKept : Prop :=
  ∀ s u : State, SenderFits s → step s = .next u → SenderFits u

/-- The head supervisor's supply, state, timer, type, cycle count and test record agree (R124, R125, R128 to R139). That
the filtered line is clear from the moment the supply goes off is the model's choice (log 18). -/
def Obligations.HeadAgreementKept : Prop :=
  ∀ s u : State, HeadFits s → step s = .next u → HeadFits u

/-- The isolator state, its timer and its count agree as the table before R162 has them, and no observation is under way
while it is not CLOSED (R44). -/
def Obligations.IsolatorAgreementKept : Prop :=
  ∀ s u : State, IsolatorFits s → step s = .next u → IsolatorFits u

/-! ### Frames: what is sent is what is read -/

/-- The half-cells that a sender makes of a frame of at most 48 field bytes decode to that frame, on a channel that hears
nothing else, when its CHECK is the one R22 computes, and to CHECK with any other CHECK byte (R4, R6, R14, R22). -/
def Obligations.FrameDecodesByItsCheck : Prop :=
  ∀ (cls : BitVec 3) (serial : Serial) (fields : List Byte) (check : Byte), fields.length ≤ 48 →
    decodeChannel (frameHalves ⟨cls, serial, fields, check⟩) (frameHalves ⟨cls, serial, fields, check⟩) =
      if check = checkOf cls serial fields then .valid ⟨cls, serial, fields, check⟩ else .check

/-- Of the PRESENCE and the TEST that a station captures, a peer that takes its site reads what its owners use as what the
station held: of either the sender serial and the site, of a PRESENCE the address, interval, uptime, trim, depth, head and
test state and SOUND_FOLLOWS, of a TEST the address, kind, number and type tested. The fields that only a tool reads are
not spoken of (R21, R25 to R31). -/
def Obligations.PresenceAndTestReadAsCaptured : Prop :=
  ∀ (s : State) (stored : Site) (check : Byte),
    (stored = 0 ∨ s.settings.site = 0 ∨ stored = s.settings.site) → s.settings.address ≤ 240 →
    (∀ o : Outgoing, (s.frameOf o).serial = s.settings.serial ∧ (s.frameOf o).fields = o.fields ∧
      (s.frameOf o).cls = o.kind.cls) ∧
    frameSite (presenceFields s) = s.settings.site ∧ (∀ e, frameSite (testFields s e) = s.settings.site) ∧
    (30 ≤ s.sched.interval → s.sched.interval ≤ 155 → s.supply.uptime ≤ 16777215 →
      9000 ≤ s.settings.trim → s.settings.trim ≤ 11000 → s.sounding.ownQuality ≤ 15 →
      (∀ d, s.sounding.ownDepth = some d → d ≤ 11375) →
      judgeFrame stored ⟨2, s.settings.serial, presenceFields s, check⟩ =
        .message (.presence {
          address := s.settings.address
          interval := s.sched.interval
          uptime := s.supply.uptime
          trim := s.settings.trim
          depth := if s.sounding.ownQuality = 0 then none else s.sounding.ownDepth
          headState := s.head.state
          testState := s.head.record.state
          soundFollows := decide (s.supply.band = .normal) && !s.retained.lockout })) ∧
    (∀ e : TestEvent, 1 ≤ e.number → e.number ≤ 255 →
      judgeFrame stored ⟨6, s.settings.serial, testFields s e, check⟩ =
        .message (.test s.settings.address e.kind e.number e.type))

/-- Every REPLY that a station captures for a record the reply unit can hold passes the length and field checks of a peer
that takes its site (R25, R34 to R37, R154). -/
def Obligations.CapturedReplyAccepted : Prop :=
  ∀ (s : State) (r : PendingReply) (stored : Site) (check : Byte),
    (stored = 0 ∨ s.settings.site = 0 ∨ stored = s.settings.site) →
    r.item ≤ 255 → r.item ≠ 3 → (r.index.isSome = true ↔ (r.item = 1 ∨ r.item = 2)) →
    judgeFrame stored ⟨5, s.settings.serial, replyFields s r, check⟩ = .message .reply

/-! ### The loop picture and the journal -/

/-- R102, R103, R104 and R105, of every roster and orientation: the rank and the five counts count the LIVE entries of
each relation and add up to the live count, each finding is shown exactly while a LIVE entry shows it, the first-finding
serial is that of the first such entry, and END_CANDIDATE needs the orientation UNKNOWN and no LIVE entry DOWNSTREAM. -/
def Obligations.LoopPictureFollowsEntries : Prop :=
  ∀ (r : Roster) (o : Orientation),
    let p := pictureOf r o
    let live (rel : Relation) := (r.entries.filter fun e => decide (e.state = .live ∧ e.relation = rel)).length
    p.rank = live .upstream ∧ p.downstream = live .downstream ∧ p.branched = live .branched ∧ p.split = live .split ∧
    p.inconsistent = live .inconsistent ∧ p.unmeasured = live .unmeasured ∧
    p.rank + p.downstream + p.branched + p.split + p.inconsistent + p.unmeasured
      = (r.entries.filter fun e => decide (e.state = .live)).length ∧
    (p.branchSeen = true ↔ 0 < p.branched) ∧ (p.doubleFeedSeen = true ↔ 0 < p.split) ∧
    (p.inconsistentSeen = true ↔ 0 < p.inconsistent) ∧
    (p.firstFinding = none ↔ p.branchSeen = false ∧ p.doubleFeedSeen = false ∧ p.inconsistentSeen = false) ∧
    (∀ x, p.firstFinding = some x ↔
      ∃ front e back, r.entries = front ++ e :: back ∧ e.serial = x ∧
        (e.state = .live ∧ (e.relation = .branched ∨ e.relation = .split ∨ e.relation = .inconsistent)) ∧
        ∀ y ∈ front, ¬(y.state = .live ∧ (y.relation = .branched ∨ y.relation = .split ∨ y.relation = .inconsistent))) ∧
    (p.endCandidate = true ↔ o = .unknown ∧ p.downstream = 0)

/-! ### The line: idle, START, contention, self-monitoring, sending (01) -/

/-- LINE_IDLE with no filled slot: the line is idle, a frame under way ends and awaits its decision behind any that still
do (log 8), and an observation whose tail has not ended is TRUNCATED, or dropped without a kind after a flip (log 20); the
samples taken by then are in the store (log 19). Before 6 ms without sink have passed, as the model knows them, and while
the station's own message or the two quiet cells after it are on the line, no idle is judged; in its own tail one can be
(log 39) (R5, R16, R42, R43, R45, R47). -/
def Obligations.IdleEndsFrameAndTail : Prop :=
  ∀ (s : State) (t : Nat) (r : TailReadings), s.supply.phase = .running →
    let m := max s.now t
    (LineFree s → s.rx.idleNotBefore ≤ m → (∀ k, (s.sender.slot k).filled = false) →
      ∃ u, exec (.lineIdle t { frame := none, tail := r }) s = .next u ∧ LedFollows s u ∧
        u = { s with
          now := m
          rx := { s.rx with
            idle := true
            idleInTail := s.rx.idleInTail || decide (s.sender.state = .tail)
            underWay := none
            awaiting := s.rx.awaiting ++ s.rx.underWay.toList }
          sounding := match s.sounding.obs with
            | none => s.sounding
            | some o =>
              if o.endsAt ≤ m then s.sounding
              else { soundingCut s.sounding o r m with
                lastRejection := if o.flipped = true then s.sounding.lastRejection else .truncated }
          indicator := u.indicator }) ∧
    (∀ heard, ¬LineFree s ∨ m < s.rx.idleNotBefore →
      ∃ u, exec (.lineIdle t { frame := heard, tail := r }) s = .next u ∧ LedFollows s u ∧
        u = { s with now := m, indicator := u.indicator })

/-- START_LEADING_EDGE: a dip of at least 8 mV on an idle line begins a frame, with the orientation of that moment; a
smaller dip is no sink; sink on a line that is not idle begins nothing, and the 6 ms without sink count from it anew (R2,
R5, R14, R101; the bounds on the next idle: log 39). -/
def Obligations.EdgeOnIdleLineBeginsFrame : Prop :=
  ∀ (s : State) (t : Nat) (dip : Int), s.supply.phase = .running →
    let m := max s.now t
    (s.rx.idle = true → 8 ≤ dip →
      ∃ u, exec (.startLeadingEdge t dip) s = .next u ∧ LedFollows s u ∧
        u = { s with now := m, rx := receiverAtStart s m, indicator := u.indicator }) ∧
    (dip < 8 →
      ∃ u, exec (.startLeadingEdge t dip) s = .next u ∧ LedFollows s u ∧
        u = { s with now := m, indicator := u.indicator }) ∧
    (s.rx.idle = false → 8 ≤ dip →
      ∃ u, exec (.startLeadingEdge t dip) s = .next u ∧ LedFollows s u ∧
        u = { s with now := m, rx := receiverAfterSink s.rx m, indicator := u.indicator })

/-- LINE_IDLE with a filled slot: a WAITING sender starts TEST if filled, else REPLY, else PRESENCE, with the content its
owner holds at that moment; a PRESENCE has its interval computed just before, and carries a tail in band NORMAL with the
lockout clear (R8, R29, R31, R34, R39, R112). It is said of a line that was idle already too: that a repeated LINE_IDLE
starts a message is the model's choice (log 7), and so are that the own receiver takes up the frame (log 36), with its
bound on the next idle (log 39), that a frame this idle ends awaits its decision (log 8), and SOUND_FOLLOWS in the flag
byte of a REPLY (log 12). -/
def Obligations.IdleStartsHighestSlot : Prop :=
  ∀ (s : State) (t : Nat) (r : TailReadings), s.supply.phase = .running →
    s.sender.state = .waiting → s.sender.outgoing = none →
    s.rx.idleNotBefore ≤ max s.now t → s.sounding.obs = none →
    (∀ e, s.sender.test.filled = true → s.head.lastEvent = some e →
      ∃ u, exec (.lineIdle t { frame := none, tail := r }) s = .next u ∧ LedFollows s u ∧
        u = { startedMessage s (max s.now t) .test (testFields s e) false with indicator := u.indicator }) ∧
    (∀ q, s.sender.test.filled = false → s.sender.reply.filled = true → s.reply.record = some q →
      ∃ u, exec (.lineIdle t { frame := none, tail := r }) s = .next u ∧ LedFollows s u ∧
        u = { startedMessage s (max s.now t) .reply (replyFields s q) false with indicator := u.indicator }) ∧
    (s.sender.test.filled = false → s.sender.reply.filled = false → s.sender.presence.filled = true →
      ∃ u, exec (.lineIdle t { frame := none, tail := r }) s = .next u ∧ LedFollows s u ∧
        let sched := { s.sched with interval := 30 + s.roster.liveCount / 2 }
        u = { startedMessage { s with sched := sched } (max s.now t) .presence
                (presenceFields { s with sched := sched })
                (decide (s.supply.band = .normal ∧ s.retained.lockout = false)) with
              indicator := u.indicator })

/-- CONTENTION_LOST: a contender that judges dominant, a dip of 8 mV or more, in a recessive cell of its contention field
stops, keeps its slot with the abort count unchanged and the refill mark cleared, and goes on receiving the frame; a
PRESENCE is withdrawn under quiet unless it is exempt (R7, R8, R17, R117, R120). The moment of the loss, the middle of the
cell's first half, is the model's choice (log 33). -/
def Obligations.LoserKeepsItsSlot : Prop :=
  ∀ (s : State) (o : Outgoing) (cell : Nat) (dip : Int), s.supply.phase = .running →
    s.sender.state = .contending → s.sender.outgoing = some o →
    (contentionBits o.kind.cls s.settings.serial)[cell]? = some false → 8 ≤ dip →
    ∃ u, exec (.contentionLost cell dip) s = .next u ∧ LedFollows s u ∧
      u = { s with
        now := max s.now (o.startedAt + 500 * cell + 125)
        sender := senderAfterRetry s o.kind (s.sender.slot o.kind).aborts
        sched := if o.kind = .presence then schedAfterRetry s else s.sched
        indicator := u.indicator }

/-- SEND_MISMATCH: the START cell judged recessive by no sink in either half (log 44), a dominant cell of the contention
field judged recessive by its first half, or a half-cell of the payload judged otherwise than sent, ends the frame and
raises the slot's abort count. Below 8 the slot stays filled; at 8 the message is discarded, the slot empties (or is
filled again by a refill mark) and its owner is told: the presence timer restarts, the reply record is cleared (R4, R5,
R7, R10, R11, R114, R117, R120, R160). The model's choice are the moment of the mismatch, the middle of its half-cell
(log 33), and the last sink from which the 6 ms before the next idle count (log 39). -/
def Obligations.MismatchAbortsMessage : Prop :=
  ∀ (s : State) (o : Outgoing) (half : Nat) (dips : CellDips) (sent : Bool), s.supply.phase = .running →
    s.sender.outgoing = some o → (frameHalves (s.frameOf o))[half]? = some sent →
    let dip := if half % 2 = 0 then dips.first else dips.second
    ((half = 1 ∧ s.sender.state = .contending ∧ dips.first < 8 ∧ dips.second < 8) ∨
      (2 ≤ half ∧ half < 88 ∧ half % 2 = 0 ∧ s.sender.state = .contending ∧ sent = true ∧ dips.first < 8) ∨
      (88 ≤ half ∧ s.sender.state = .payload ∧ (sent = true ↔ dip < 8))) →
    let m := max s.now (o.startedAt + 250 * half + 125)
    let lastSink := if 8 ≤ dip then o.startedAt + 250 * half + 125
      else o.startedAt + 250 * sinkHalves ((frameHalves (s.frameOf o)).take half)
    let count := (s.sender.slot o.kind).aborts + 1
    (count < 8 →
      ∃ u, exec (.sendMismatch half dips) s = .next u ∧ LedFollows s u ∧
        u = { s with
          now := m
          rx := { receiverAfterSink s.rx lastSink with underWay := none }
          sender := senderAfterRetry s o.kind count
          sched := if o.kind = .presence then schedAfterRetry s else s.sched
          indicator := u.indicator }) ∧
    (8 ≤ count →
      ∃ u, exec (.sendMismatch half dips) s = .next u ∧ LedFollows s u ∧
        u = { s with
          now := m
          rx := { receiverAfterSink s.rx lastSink with underWay := none }
          sender := senderAfterEnd s o.kind .waiting s.sender.tailAt
          sched := if o.kind = .presence then schedAfterEnd s m else s.sched
          reply := if o.kind = .reply then { record := none } else s.reply
          indicator := u.indicator })

/-- LAST_SERIAL_CELL_SENT: a contender goes to PAYLOAD 22 ms after its START. OWN_TAIL_START: 1 ms after the CHECK cell
the sounding unit takes the line for 128 ms, and observes the own tail with the own trim if the isolator is CLOSED. The
sink is commanded in the sink half-cells of the frame on the line and in places 1 and 2 of each group of four periods of
the own tail, and at no other time; commanded, it draws the trim, with the cutoff open nothing (R1, R6, R40, R43, R44,
R48, table after R11). The model's choice are its name for the sender in the two quiet cells (log 40), that the own
observation does not begin beside one under way (log 37), and that no idle judged in the tail is noted at its beginning
(log 39). -/
def Obligations.WinnerGoesOnToPayloadAndTail : Prop :=
  ∀ s : State,
    (∀ o, s.sender.outgoing = some o →
      (s.sinkCommanded = true ↔ (frameHalves (s.frameOf o))[(s.now - o.startedAt) / 250]? = some true)) ∧
    (∀ d, s.sender.outgoing = none → s.sender.state = .tail → s.sender.tailAt = some (d + 128000) → d ≤ s.now →
      (s.sinkCommanded = true ↔
        s.now < d + 128000 ∧ ((s.now - d) / 2000 % 4 = 1 ∨ (s.now - d) / 2000 % 4 = 2))) ∧
    (s.sender.outgoing = none → s.sender.state ≠ .tail → s.sinkCommanded = false) ∧
    s.sinkCurrent = (if s.sinkCommanded = true ∧ s.port.cutoffOpen = false then s.settings.trim else 0) ∧
    (s.supply.phase = .running →
    (∀ o, s.sender.state = .contending → s.sender.outgoing = some o →
      ∃ u, exec .lastSerialCellSent s = .next u ∧ LedFollows s u ∧
        u = { s with
          now := max s.now (o.startedAt + 22000)
          sender := { s.sender with state := .payload }
          indicator := u.indicator }) ∧
    ∀ d, s.sender.state = .quietCells → s.sender.tailAt = some d →
      ∃ u, exec .ownTailStart s = .next u ∧ LedFollows s u ∧
        u = { s with
          now := max s.now d
          rx := { s.rx with idleInTail := false }
          sender := { s.sender with state := .tail, tailAt := some (max s.now d + 128000) }
          sounding := if s.isolator.state = .closed ∧ s.sounding.obs = none then
              { s.sounding with obs := some {
                peer := none
                trim := s.settings.trim
                noted := s.port.orientation
                low := decide (s.supply.band ≠ .normal)
                flipped := false
                tailFrom := max s.now d
                firstSample := max s.now d + 1000
                endsAt := max s.now d + 128000 } }
            else s.sounding
          indicator := u.indicator })

/-- MESSAGE_SENT: at the end of the CHECK cell of a frame of 44 + 8 × (LENGTH + 2) cells the slot empties with abort count
0, a set refill mark fills it again, and the owner is told: a PRESENCE restarts the timer for the interval plus the offset
and moves the exempt marks, a REPLY clears the record, a TEST has no further effect. With SOUND_FOLLOWS two quiet cells, 1
ms, follow. The own frame is not received, and the 6 ms before the next idle count from the end of its last sink half (R5,
R6, R7, R11, R17, R40, R114, R117, R120, R139, R160; the last sink: log 39; the sender state of the quiet cells:
log 40). -/
def Obligations.SentMessageEmptiesSlot : Prop :=
  ∀ (s : State) (o : Outgoing), s.supply.phase = .running → s.sender.state = .payload → s.sender.outgoing = some o →
    let m := max s.now (o.startedAt + 500 * (44 + 8 * (o.fields.length + 2)))
    let lastSink := o.startedAt + 250 * sinkHalves (frameHalves (s.frameOf o))
    ∃ u, exec .messageSent s = .next u ∧ LedFollows s u ∧
      u = { s with
        now := m
        rx := { receiverAfterSink s.rx lastSink with underWay := none }
        sender := senderAfterEnd s o.kind (if o.soundFollows = true then .quietCells else .waiting)
          (if o.soundFollows = true then some (m + 1000) else none)
        sched := if o.kind = .presence then schedAfterEnd s m else s.sched
        reply := if o.kind = .reply then { record := none } else s.reply
        indicator := u.indicator }

/-- SINK_LOCKOUT where the sink has drawn current for more than 50 ms without a break, counted from the end of the last
gap and not from before the start (log 50), in a station that is not held in reset and whose cutoff is closed: the cutoff
opens, the latch is set, what is being sent stops, all three slots are empty with their owners told, and the sender is
LOCKED; a discarded PRESENCE starts the timer, and both exempt marks are cleared (R1, R12, R114, R117, R123, R160). Else
it changes nothing (log 28; in which phases the guard watches: log 24). That the own receiver drops a frame so cut is the
model's choice (log 42). -/
def Obligations.LockoutSilencesSender : Prop :=
  ∀ (s : State) (drawn : SinkDrawn),
    let m := max s.now drawn.upTo
    (s.supply.phase ≠ .held → s.port.cutoffOpen = false →
      drawn.since + 50000 < drawn.upTo → s.port.guardFrom + 50000 < drawn.upTo →
      ∃ u, exec (.sinkLockout drawn) s = .next u ∧ LedFollows s u ∧
        u = { s with
          now := m
          retained := { s.retained with lockout := true }
          port := { s.port with cutoffOpen := true }
          rx := if s.sender.outgoing = none then s.rx else { s.rx with underWay := none }
          sender := { state := .locked, test := {}, reply := {}, presence := {}, outgoing := none, tailAt := none }
          sched := { s.sched with
            timer := if s.sender.presence.filled = true then some (m + (seconds s.sched.interval + s.sched.offset))
              else s.sched.timer
            exempt := false
            exemptRefill := false }
          reply := if s.sender.reply.filled = true then { record := none } else s.reply
          indicator := u.indicator }) ∧
    (s.supply.phase = .held ∨ s.port.cutoffOpen = true ∨ drawn.upTo ≤ drawn.since + 50000 ∨
        drawn.upTo ≤ s.port.guardFrom + 50000 →
      ∃ u, exec (.sinkLockout drawn) s = .next u ∧ LedFollows s u ∧ u = { s with now := m, indicator := u.indicator })

/-! ### Sounding (03) -/

/-- TAIL_END with an observation that a check rejects: the first of LOW_SUPPLY, CLIPPED, DISTURBED, NO_DIP that fails
becomes the last rejection kind, and no figure changes; the store holds the 64 samples of each channel. An observation
whose station has flipped since its first sample is dropped without a kind, whatever its samples, and no figure changes.
At the end of an own tail that is not observed, or ends before the tail observed, the line only returns to the sender. The
6 ms before the next idle count from the last sink of the own tail if no idle has been judged since the own tail began
(R5, R41 to R44, R46 to R51, R62; the last sink and the order of two tails: log 39; all samples shown at this command:
log 19). -/
def Obligations.RejectedObservationChangesNoFigure : Prop :=
  ∀ (s : State) (r : TailReadings), s.supply.phase = .running →
    (∀ o k, s.sounding.obs = some o → NoOwnTailBefore s o.endsAt → o.flipped = false →
      RejectedAs o.low (vSamples r) (iSamples o.noted r) k →
      ∃ u, exec (.tailEnd r) s = .next u ∧ LedFollows s u ∧
        u = { s with
          now := max s.now o.endsAt
          rx := receiverAfterTail s o.endsAt
          sender := senderAfterTail s o.endsAt
          sounding := { s.sounding with
            obs := none, vStore := vSamples r, iStore := iSamples o.noted r, lastRejection := k }
          indicator := u.indicator }) ∧
    (∀ o, s.sounding.obs = some o → NoOwnTailBefore s o.endsAt → o.flipped = true →
      ∃ u, exec (.tailEnd r) s = .next u ∧ LedFollows s u ∧
        u = { s with
          now := max s.now o.endsAt
          rx := receiverAfterTail s o.endsAt
          sender := senderAfterTail s o.endsAt
          sounding := { s.sounding with obs := none, vStore := vSamples r, iStore := iSamples o.noted r }
          indicator := u.indicator }) ∧
    (∀ e, (∀ o, s.sounding.obs = some o → e < o.endsAt) → s.sender.state = .tail → s.sender.tailAt = some e →
      ∃ u, exec (.tailEnd r) s = .next u ∧ LedFollows s u ∧
        u = { s with
          now := max s.now e
          rx := receiverAfterTail s e
          sender := { s.sender with state := .waiting, tailAt := none }
          indicator := u.indicator })

/-- TAIL_END with an observation that passes the checks. A peer's is merged into the entry of its serial: S, Φ and quality
move by the running form with the samples of R53 and R54, every other entry and field stays; without such an entry the
figures are dropped. The own one moves D and its quality, and sets SENSE_FAULT exactly when the own fraction is over 250;
the entries change in their relations only. The last rejection kind stays (R5, R41, R42, R46, R52 to R54, R56 to R59;
log 39; all samples shown at this command: log 19). It is said of the tail that ends first, where the station is in its
own tail and observes another. An observation marked by a flip, and a tail without one, are in
RejectedObservationChangesNoFigure. What a flip at this moment would take back of an own merge is kept (log 48). -/
def Obligations.AcceptedObservationMoves : Prop :=
  ∀ (s : State) (o : Observation) (r : TailReadings) (d f : Nat), s.supply.phase = .running →
    s.sounding.obs = some o → NoOwnTailBefore s o.endsAt → o.flipped = false → 0 < o.trim →
    AcceptedObservation o.low (vSamples r) (iSamples o.noted r) →
    DepthSampleIs o.trim (vSamples r) d →
    FractionSampleIs o.trim (UsedAccumulation o.noted (iSamples o.noted r)) f →
    let stored := { s.sounding with obs := none, vStore := vSamples r, iStore := iSamples o.noted r }
    (∀ p e, o.peer = some p → s.roster.find p = some e →
      ∃ u rel, exec (.tailEnd r) s = .next u ∧ LedFollows s u ∧
        u.roster.find p = some { e with
          shared := figureAfter e.quality e.shared d
          through := figureAfter e.quality e.through f
          quality := qualityAfter e.quality
          relation := rel } ∧
        (∀ x, x ≠ p → u.roster.find x = s.roster.find x) ∧
        u = { s with
          now := max s.now o.endsAt
          rx := receiverAfterTail s o.endsAt
          sender := senderAfterTail s o.endsAt
          sounding := stored
          roster := { s.roster with entries := u.roster.entries }
          indicator := u.indicator }) ∧
    (∀ p, o.peer = some p → s.roster.find p = none →
      ∃ u, exec (.tailEnd r) s = .next u ∧ LedFollows s u ∧
        u = { s with
          now := max s.now o.endsAt
          rx := receiverAfterTail s o.endsAt
          sender := senderAfterTail s o.endsAt
          sounding := stored
          indicator := u.indicator }) ∧
    (o.peer = none →
      ∃ u, exec (.tailEnd r) s = .next u ∧ LedFollows s u ∧
        u.roster.entries.map (fun e => { e with relation := .unmeasured })
          = s.roster.entries.map (fun e => { e with relation := .unmeasured }) ∧
        u = { s with
          now := max s.now o.endsAt
          rx := receiverAfterTail s o.endsAt
          sender := senderAfterTail s o.endsAt
          sounding := { stored with
            ownDepth := figureAfter s.sounding.ownQuality s.sounding.ownDepth d
            ownQuality := qualityAfter s.sounding.ownQuality
            senseFault := decide (250 < f)
            ownMerge := some {
              decidedAt := max s.now o.endsAt, noted := o.noted, faultBefore := s.sounding.senseFault } }
          roster := { s.roster with entries := u.roster.entries }
          indicator := u.indicator })

/-! ### Frames received (02, 04, 06, 08, 09) -/

/-- PRESENCE from a peer that has an entry or finds room: the entry is made or refreshed with age 0, LIVE, the heard-via
and the brought-in fields; a fall of the uptime counts one restart, held at 15; S, Φ and quality stay. Every other entry
stays. Good rises by 1. A tail announced begins an observation while the isolator is CLOSED: that the isolator is judged
at the delivery of the PRESENCE (log 21), and that none begins while one is under way (log 37), are the model's choice. A
frame is read as a PRESENCE with the fields it carries, the interval brought into 30..155, the trim into 9000..11000, and
a depth over 11375 absent (R18, R30, R38, R44, R65, R67, R68, R71, R72, R82). Which frame is at hand, and the moment of
its last sink, are the model's choice (log 8, 39). -/
def Obligations.PresenceTakenIn : Prop :=
  (∀ (stored : Site) (f : Frame) (p : PresenceIn), judgeFrame stored f = .message (.presence p) →
    let byte (k : Nat) : Nat := (f.fields.getD k 0).toNat
    f.cls = 2 ∧ p.address = byte 2 ∧ p.address ≤ 240 ∧
    p.interval = (if byte 3 < 30 then 30 else if 155 < byte 3 then 155 else byte 3) ∧
    p.uptime = 65536 * byte 4 + 256 * byte 5 + byte 6 ∧
    p.trim = (let x := 256 * byte 7 + byte 8; if x < 9000 then 9000 else if 11000 < x then 11000 else x) ∧
    p.depth = (let x := 256 * byte 9 + byte 10; if x ≤ 11375 then some x else none) ∧
    p.headState = headStateOfCode (byte 13 % 8) ∧ testStateOfCode (byte 13 / 8 % 4) = some p.testState ∧
    p.soundFollows = (f.fields.getD 14 0).getLsbD 2) ∧
  ∀ (s : State) (t : Nat) (h : Heard) (frame : RxFrame) (sender : Serial) (via : Via) (iDamaged : Bool)
    (p : PresenceIn) (old : Entry), s.supply.phase = .running → FrameAtHand s (max s.now t) frame h →
    receptionOf s.settings.site frame h = .delivered sender via iDamaged (.presence p) →
    sender ≠ s.settings.serial →
    (s.roster.find sender = some old ∨
      (s.roster.find sender = none ∧ s.roster.entries.length < 250 ∧ old = blankEntry sender via)) →
    ∃ u, exec (.presence t h) s = .next u ∧ LedFollows s u ∧
      RosterTook s u { old with
        state := .live, via := via, age := 0
        address := p.address, interval := p.interval, depth := p.depth, headState := p.headState
        testState := p.testState, uptime := some p.uptime
        restarts := match old.uptime with
          | some x => if p.uptime < x ∧ old.restarts < 15 then old.restarts + 1 else old.restarts
          | none => old.restarts } ∧
      AskedOnConflictChange s u ∧
      u = { s with
        now := max s.now t
        rx := receiverAfterGood s.rx frame h iDamaged
        roster := u.roster
        sender := u.sender
        sched := u.sched
        sounding := soundingAfterMessage s (max s.now t) sender (.presence p)
        indicator := u.indicator }

/-- TEST from a peer that has an entry or finds room: the entry's address and test state are written (STUCK for STUCK,
else PASSED) with age 0, LIVE and the heard-via, and a PEER entry stamped with the own uptime is written into the journal
(R18, R65, R67, R69, R71, R145, R147). That the entry keeps the type tested beside the fields of R145 is the model's
choice (log 45). Which frame is at hand, and the moment of its last sink, are the model's choice (log 8, 39). -/
def Obligations.TestTakenIn : Prop :=
  ∀ (s : State) (t : Nat) (h : Heard) (frame : RxFrame) (sender : Serial) (via : Via) (iDamaged : Bool)
    (address : Nat) (kind : TestKind) (number : Nat) (typeTested : HeadType) (old : Entry), s.supply.phase = .running →
    FrameAtHand s (max s.now t) frame h →
    receptionOf s.settings.site frame h = .delivered sender via iDamaged (.test address kind number typeTested) →
    sender ≠ s.settings.serial →
    (s.roster.find sender = some old ∨
      (s.roster.find sender = none ∧ s.roster.entries.length < 250 ∧ old = blankEntry sender via)) →
    ∃ u, exec (.test t h) s = .next u ∧ LedFollows s u ∧
      RosterTook s u { old with
        state := .live, via := via, age := 0, address := address
        testState := if kind = .stuck then .stuck else .passed } ∧
      AskedOnConflictChange s u ∧
      u = { s with
        now := max s.now t
        rx := receiverAfterGood s.rx frame h iDamaged
        roster := u.roster
        sender := u.sender
        sched := u.sched
        journal := journalAfter s.journal {
          heardAt := s.supply.uptime, serial := sender, address := address, kind := kind, number := number
          typeTested := typeTested, source := .peer }
        indicator := u.indicator }

/-- REPLY from a peer that has an entry or finds room: the entry has age 0, is LIVE and takes the heard-via, and nothing
more is written; a newcomer has the fields of R65 (R18, R37, R65, R67, R70, R71). Which frame is at hand, and the moment
of its last sink, are the model's choice (log 8, 39). -/
def Obligations.ReplyTakenIn : Prop :=
  ∀ (s : State) (t : Nat) (h : Heard) (frame : RxFrame) (sender : Serial) (via : Via) (iDamaged : Bool)
    (old : Entry), s.supply.phase = .running → FrameAtHand s (max s.now t) frame h →
    receptionOf s.settings.site frame h = .delivered sender via iDamaged .reply →
    sender ≠ s.settings.serial →
    (s.roster.find sender = some old ∨
      (s.roster.find sender = none ∧ s.roster.entries.length < 250 ∧ old = blankEntry sender via)) →
    ∃ u, exec (.reply t h) s = .next u ∧ LedFollows s u ∧
      RosterTook s u { old with state := .live, via := via, age := 0 } ∧
      AskedOnConflictChange s u ∧
      u = { s with
        now := max s.now t
        rx := receiverAfterGood s.rx frame h iDamaged
        roster := u.roster
        sender := u.sender
        sched := u.sched
        indicator := u.indicator }

/-- A PRESENCE, TEST or REPLY from a sender without an entry when the roster holds 250: with a STALE entry, the one of
greatest age and among equals of lowest serial gives way to the newcomer and ROSTER_FULL stays; with none the newcomer is
refused, no entry changes and ROSTER_FULL is set. The newcomer's entry has the fields of R65, and the roster holds 250
still. Either way the other owners act: a TEST is journalled, a tail announced is observed (R18, R44, R65, R69, R71, R77,
R78, R79). The model's choice are that the journal entry keeps the type tested (log 45), that the isolator is judged at
the delivery of the PRESENCE (log 21), and that no observation begins while one is under way (log 37). Which frame is at
hand, and the moment of its last sink, are the model's choice (log 8, 39). -/
def Obligations.FullRosterEvictsOrRefuses : Prop :=
  ∀ (s : State) (t : Nat) (h : Heard) (frame : RxFrame) (sender : Serial) (via : Via) (iDamaged : Bool) (m : Message),
    s.supply.phase = .running → FrameAtHand s (max s.now t) frame h → RosterKind m →
    receptionOf s.settings.site frame h = .delivered sender via iDamaged m →
    sender ≠ s.settings.serial → s.roster.find sender = none → s.roster.entries.length = 250 →
    (∀ old ∈ s.roster.entries, old.state = .stale →
      (∀ x ∈ s.roster.entries, x.state = .stale →
        x.age < old.age ∨ (x.age = old.age ∧ old.serial.toNat ≤ x.serial.toNat)) →
      ∃ u rel, exec (commandOf m t h) s = .next u ∧ LedFollows s u ∧ u.roster.find old.serial = none ∧
        u.roster.find sender = some { entryAfter m via (newcomer sender via) with relation := rel } ∧
        (∀ x, x ≠ old.serial → x ≠ sender → u.roster.find x = s.roster.find x) ∧
        (RosterFits s → u.roster.entries.length = 250) ∧
        u.roster.full = s.roster.full ∧ u.roster.clash = s.roster.clash ∧ AskedOnConflictChange s u ∧
        u = { s with
          now := max s.now t
          rx := receiverAfterGood s.rx frame h iDamaged
          roster := u.roster
          sender := u.sender
          sched := u.sched
          journal := journalAfterMessage s sender m
          sounding := soundingAfterMessage s (max s.now t) sender m
          indicator := u.indicator }) ∧
    ((∀ x ∈ s.roster.entries, x.state = .live) →
      ∃ u, exec (commandOf m t h) s = .next u ∧ LedFollows s u ∧
        u = { s with
          now := max s.now t
          rx := receiverAfterGood s.rx frame h iDamaged
          roster := { s.roster with full := true }
          journal := journalAfterMessage s sender m
          sounding := soundingAfterMessage s (max s.now t) sender m
          indicator := u.indicator })

/-- QUERY: one that concerns the station and asks for another item than SOUND writes the record and fills the REPLY slot
if that slot is empty and the lockout clear, and for IDENTIFY starts the 20 s of its timer; SOUND is an exempt request;
any other QUERY is counted good and has no effect. That SOUND under the lockout leaves no exempt mark is the model's
choice (log 14) (R18, R117, R123, R152, R153, R154, R157, R158). Which frame is at hand, and the moment of its last sink,
are the model's choice (log 8, 39). -/
def Obligations.QueryTaken : Prop :=
  ∀ (s : State) (t : Nat) (h : Heard) (frame : RxFrame) (sender : Serial) (via : Via) (iDamaged : Bool)
    (sel : Selector) (item : Nat) (index : Option Nat), s.supply.phase = .running → FrameAtHand s (max s.now t) frame h →
    receptionOf s.settings.site frame h = .delivered sender via iDamaged (.query sel item index) →
    sender ≠ s.settings.serial →
    let counted := { s with now := max s.now t, rx := receiverAfterGood s.rx frame h iDamaged }
    (QueryConcerns s sel item → item ≠ 3 → s.sender.reply.filled = false → s.retained.lockout = false →
      let identify := if item = 4 then some (max s.now t + 20000000) else s.indicator.identify
      ∃ u, exec (.query t h) s = .next u ∧
        LedFollows { s with indicator := { s.indicator with identify := identify } } u ∧
        u = { counted with
          sender := { s.sender with reply := { filled := true, aborts := 0, refill := false } }
          reply := { record := some { requester := sender, item := item, index := index } }
          indicator := u.indicator }) ∧
    (QueryConcerns s sel item → item = 3 →
      ∃ u, exec (.query t h) s = .next u ∧ LedFollows s u ∧
        u = { counted with
          sender := { s.sender with presence := presenceAfterExempt s }
          sched := schedAfterExempt s
          indicator := u.indicator }) ∧
    ((¬QueryConcerns s sel item ∨
        (item ≠ 3 ∧ (s.sender.reply.filled = true ∨ s.retained.lockout = true))) →
      ∃ u, exec (.query t h) s = .next u ∧ LedFollows s u ∧ u = { counted with indicator := u.indicator })

/-- QUIET: a duration of 1 s or more sets quiet-until, at most 60 s ahead, and withdraws and owes a PRESENCE that waits
without the exempt mark; a duration of 0 ends quiet that holds, and does nothing else (R18, R119, R120, R121). Which frame
is at hand, and the moment of its last sink, are the model's choice (log 8, 39). -/
def Obligations.QuietTaken : Prop :=
  ∀ (s : State) (t : Nat) (h : Heard) (frame : RxFrame) (sender : Serial) (via : Via) (iDamaged : Bool)
    (duration : Nat), s.supply.phase = .running → FrameAtHand s (max s.now t) frame h →
    receptionOf s.settings.site frame h = .delivered sender via iDamaged (.quiet duration) →
    sender ≠ s.settings.serial →
    let m := max s.now t
    let counted := { s with now := m, rx := receiverAfterGood s.rx frame h iDamaged }
    (0 < duration →
      let withdrawn := s.presenceWaits = true ∧ s.sched.exempt = false
      ∃ u, exec (.quiet t h) s = .next u ∧ LedFollows s u ∧
        u = { counted with
          sender := if withdrawn then { s.sender with presence := {} } else s.sender
          sched := { s.sched with
            quietUntil := some (m + 1000000 * (if 60 < duration then 60 else duration))
            deferred := s.sched.deferred || decide withdrawn }
          indicator := u.indicator }) ∧
    (duration = 0 → s.sched.quietUntil ≠ none →
      ∃ u, exec (.quiet t h) s = .next u ∧ LedFollows s u ∧
        u = { counted with
          sender := { s.sender with presence := presenceAfterQuiet s }
          sched := schedAfterQuiet s m
          indicator := u.indicator }) ∧
    (duration = 0 → s.sched.quietUntil = none →
      ∃ u, exec (.quiet t h) s = .next u ∧ LedFollows s u ∧ u = { counted with indicator := u.indicator })

/-- Which frames are accepted, discarded or set aside, and what of it: the table of R15 from the two channels' results,
the I-channel judging by the orientation noted and no sink while the isolator was not CLOSED, for which the model takes
the isolator's state at the middle of each half (log 11); then the checks, class code and LENGTH before the site-code
filter, which sets a frame aside exactly when both codes are non-zero and differ. A discarded frame adds 1 to damaged,
held at 65535, and sets the last damage kind; one set aside as foreign adds 1 to foreign and leaves that kind; neither
changes anything else (R3, R15, R18, R23, R24, R26). A frame that a channel decodes as announcing a tail is decided from
what was heard up to the end of its CHECK cell (R14, R16; log 8). Which frame is at hand, and the moment of its last sink,
are the model's choice (log 8, 39). -/
def Obligations.DiscardedFrameOnlyCounted : Prop :=
  (∀ (f g : Frame) (v i : ChannelResult),
    decideChannels (.valid f) (.valid g) = (if f = g then .accepted f .both false else .damaged .mismatch) ∧
    decideChannels (.valid f) .silent = .accepted f .v false ∧
    ((∀ x, i ≠ .valid x) → i ≠ .silent → decideChannels (.valid f) i = .accepted f .v true) ∧
    ((∀ x, v ≠ .valid x) → decideChannels v (.valid g) = .accepted g .i false) ∧
    ((∀ x, v ≠ .valid x) → (∀ x, i ≠ .valid x) → decideChannels v i = .damaged
      (if v = .coding ∨ v = .silent then .vCoding else if v = .check then .vCheck else .length))) ∧
  (∀ (frame : RxFrame) (h : Heard) (j : Nat),
    let middle := frame.startedAt + 250 * j + 125
    let closed : Bool :=
      ((frame.crossings.countP fun c => decide (c ≤ middle)) + if frame.mutedAtStart = true then 1 else 0) % 2 == 0
    (heardOnI frame h)[j]? = (h.through[j]?).map fun c => closed && match frame.orientation with
      | .feedA => decide (500 ≤ c)
      | .feedB => decide (c ≤ -500)
      | .unknown => decide (500 ≤ c ∨ c ≤ -500)) ∧
  (∀ (stored : Site) (f : Frame) (k : Kind),
    (kindOfClass f.cls = none → judgeFrame stored f = .malformed) ∧
    (∀ bad, kindOfClass f.cls = some k → lengthCheck k f.fields = some bad → judgeFrame stored f = bad) ∧
    (kindOfClass f.cls = some k → lengthCheck k f.fields = none →
      (judgeFrame stored f = .foreign ↔
        stored ≠ 0 ∧ frameSite f.fields ≠ 0 ∧ stored ≠ frameSite f.fields))) ∧
  (∀ (frame : RxFrame) (h : Heard),
    let v := decodeChannel (heardOnV h) (heardOnV h)
    let i := decodeChannel (heardOnI frame h) (heardOnV h)
    let upTo (f : Frame) : Decision :=
      let n := 2 * (44 + 8 * (f.fields.length + 2))
      decideChannels (decodeChannel ((heardOnV h).take n) ((heardOnV h).take n))
        (decodeChannel ((heardOnI frame h).take n) ((heardOnV h).take n))
    let announced (x : ChannelResult) (f : Frame) : Prop := x = .valid f ∧ f.announcesTail = true
    ((∀ f, ¬announced v f ∧ ¬announced i f) → decideFrame frame h = decideChannels v i) ∧
    (∀ f, announced v f ∨ ((∀ g, ¬announced v g) ∧ announced i f) → decideFrame frame h = upTo f)) ∧
  (∀ (stored : Site) (frame : RxFrame) (h : Heard),
    (∀ k, decideFrame frame h = .damaged k → receptionOf stored frame h = .discarded k) ∧
    ∀ f via d, decideFrame frame h = .accepted f via d →
      (∀ m, judgeFrame stored f = .message m → receptionOf stored frame h = .delivered f.serial via d m) ∧
      (judgeFrame stored f = .foreign → receptionOf stored frame h = .foreign) ∧
      (judgeFrame stored f = .badLength → receptionOf stored frame h = .discarded .length) ∧
      (judgeFrame stored f = .malformed → receptionOf stored frame h = .discarded .malformed)) ∧
  ∀ (s : State) (t : Nat) (h : Heard) (frame : RxFrame), s.supply.phase = .running →
    (∀ k, receptionOf s.settings.site frame h = .discarded k → FrameAtHand s (max s.now t) frame h →
      ∃ u, exec (.frameDiscarded t h) s = .next u ∧ LedFollows s u ∧
        u = { s with
          now := max s.now t
          rx := { withoutFrame s.rx frame h with
            damaged := if s.rx.damaged < 65535 then s.rx.damaged + 1 else s.rx.damaged
            lastDamage := k }
          indicator := u.indicator }) ∧
    (receptionOf s.settings.site frame h = .foreign → FrameAtHand s (max s.now t) frame h →
      ∃ u, exec (.frameDiscarded t h) s = .next u ∧ LedFollows s u ∧
        u = { s with
          now := max s.now t
          rx := { withoutFrame s.rx frame h with foreign := if s.rx.foreign < 65535 then s.rx.foreign + 1 else s.rx.foreign }
          indicator := u.indicator })

/-- A LINE_IDLE that carries the hearing of the frame it ends gives the state that the three commands one after another
give: the idle, the command that decides the frame, the idle that still holds. It is said where no slot is filled and no
observation is under way, of every frame that announces no tail, heard without sink for the last 6 ms (R5, R8, R16; the
two forms of the command: log 7, 8; the moment of a last sink: log 39). It rests on the model's order at one idle: the
frame is decided before a waiting message is captured, so that a slot which the frame fills starts at this idle
(log 52). -/
def Obligations.IdleDecidesHeardFrame : Prop :=
  ∀ (s : State) (t : Nat) (h : Heard) (r : TailReadings) (frame : RxFrame) (rest : List RxFrame),
    s.supply.phase = .running → LineFree s → s.rx.idleNotBefore ≤ max s.now t → s.sounding.obs = none →
    (∀ k, (s.sender.slot k).filled = false) → s.rx.awaiting ++ s.rx.underWay.toList = frame :: rest →
    (decideFrame frame h).announcesTail = false → frame.lastSink h + 6000 ≤ max s.now t →
    s.indicator.shown = s.firstCondition →
    let idle (heard : Option Heard) : Instr := .lineIdle t { frame := heard, tail := r }
    let byItself (c : Instr) : Prop := ∃ v w u, exec (idle none) s = .next v ∧ exec c v = .next w ∧
      exec (idle none) w = .next u ∧ exec (idle (some h)) s = .next u
    (∀ sender via iDamaged m, receptionOf s.settings.site frame h = .delivered sender via iDamaged m →
      byItself (commandOf m t h)) ∧
    (∀ k, receptionOf s.settings.site frame h = .discarded k → byItself (.frameDiscarded t h)) ∧
    (receptionOf s.settings.site frame h = .foreign → byItself (.frameDiscarded t h))

/-- A message of any kind under the station's own serial is counted good and sets SERIAL_CLASH; no other owner hears of it
(R18, R38, R73). Which frame is at hand, and the moment of its last sink, are the model's choice (log 8, 39). -/
def Obligations.OwnSerialOnlySetsClash : Prop :=
  ∀ (s : State) (t : Nat) (h : Heard) (frame : RxFrame) (via : Via) (iDamaged : Bool) (m : Message),
    s.supply.phase = .running → FrameAtHand s (max s.now t) frame h →
    receptionOf s.settings.site frame h = .delivered s.settings.serial via iDamaged m →
    ∃ u, exec (commandOf m t h) s = .next u ∧ LedFollows s u ∧
      u = { s with
        now := max s.now t
        rx := receiverAfterGood s.rx frame h iDamaged
        roster := { s.roster with clash := true }
        indicator := u.indicator }

/-! ### The second, ageing, orientation (04, 05, 10) -/

/-- SECOND_TICK with no reading of the through-current and an identity code that shows, by the bands of R126, the identity
held: uptime rises by 1, held at 16777215; every age rises by 1, held at 65535; a LIVE entry whose age reaches 2 ×
interval + 10 becomes STALE, an entry whose age reaches 8 × interval is removed, and a removal from 250 clears
ROSTER_FULL; the next tick comes 1 s later (R74 to R76, R78, R82, R126, R127, R176; that the tick itself makes the changes
to STALE and the removals: log 15). -/
def Obligations.SecondTickAges : Prop :=
  ∀ (s : State) (d : Nat) (code : BitVec 10), s.supply.phase = .running → s.supply.tickAt = some d →
    IdentityIs code.toNat s.head.identity →
    ∃ u, exec (.secondTick none code) s = .next u ∧ LedFollows s u ∧ AskedOnConflictChange s u ∧
      u = afterTick s (max s.now d) { s.head with previous := some s.head.identity } u

/-- ORIENTATION_CHANGE: a reading formed while the isolator is CLOSED, over a second that began after it last closed and
after the reading before, from which the next second counts; any other changes nothing (log 16). A reading of 20 steps or
more in magnitude gives FEED_A or FEED_B by its sign, a smaller one UNKNOWN. One that equals the orientation sets the run
to 0; one that differs from both begins a run of 1; one that equals the candidate adds 1, and the third gives the
orientation that value. A change between FEED_A and FEED_B clears the own depth and every S, Φ and quality, and makes
every relation UNMEASURED, and an own merge of that very moment is dropped with its SENSE_FAULT (log 48); a change to or
from UNKNOWN clears nothing. An observation before its first sample notes the new orientation; one after it, or at its
very moment (log 43), is marked by a flip away from the noted one (R43, R62, R85, R94, R98 to R101). -/
def Obligations.ThirdReadingTurnsOrientation : Prop :=
  ∀ (s : State) (t : Nat) (reading : Int) (v : Orientation), s.supply.phase = .running →
    let formed : Port := { s.port with readingsFrom := max s.now t }
    (s.isolator.state ≠ .closed ∨ max s.now t < s.port.readingsFrom + 1000000 →
      ∃ u, exec (.orientationChange t reading) s = .next u ∧ LedFollows s u ∧
        u = { s with now := max s.now t, indicator := u.indicator }) ∧
    (s.isolator.state = .closed → s.port.readingsFrom + 1000000 ≤ max s.now t →
      ((20 ≤ reading ∧ v = .feedA) ∨ (reading ≤ -20 ∧ v = .feedB) ∨ (-20 < reading ∧ reading < 20 ∧ v = .unknown)) →
      (v = s.port.orientation →
        ∃ u, exec (.orientationChange t reading) s = .next u ∧ LedFollows s u ∧
          u = { s with now := max s.now t, port := { formed with run := 0 }, indicator := u.indicator }) ∧
      (v ≠ s.port.orientation → v ≠ s.port.candidate →
        ∃ u, exec (.orientationChange t reading) s = .next u ∧ LedFollows s u ∧
          u = { s with
            now := max s.now t, port := { formed with candidate := v, run := 1 }, indicator := u.indicator }) ∧
      (v ≠ s.port.orientation → v = s.port.candidate → s.port.run + 1 < 3 →
        ∃ u, exec (.orientationChange t reading) s = .next u ∧ LedFollows s u ∧
          u = { s with now := max s.now t, port := { formed with run := s.port.run + 1 }, indicator := u.indicator }) ∧
      (v ≠ s.port.orientation → v = s.port.candidate → 3 ≤ s.port.run + 1 →
        let flip := (s.port.orientation = .feedA ∧ v = .feedB) ∨ (s.port.orientation = .feedB ∧ v = .feedA)
        ∃ u, exec (.orientationChange t reading) s = .next u ∧ LedFollows s u ∧
          u = { s with
            now := max s.now t
            port := { formed with orientation := v, run := 0 }
            sounding := { s.sounding with
              obs := s.sounding.obs.map fun o =>
                if max s.now t < o.firstSample then { o with noted := v }
                else if flip ∧ o.noted = s.port.orientation then { o with flipped := true }
                else o
              ownDepth := if flip then none else s.sounding.ownDepth
              ownQuality := if flip then 0 else s.sounding.ownQuality
              senseFault := if flip then faultWithoutMerge s (max s.now t) else s.sounding.senseFault }
            roster := { s.roster with
              entries := if flip then s.roster.entries.map fun e => { e with
                  shared := none, through := none, quality := 0, relation := .unmeasured }
                else s.roster.entries }
            indicator := u.indicator }))

/-- A SECOND_TICK that carries the reading of the through-current gives the state that a SECOND_TICK without it and an
ORIENTATION_CHANGE of that moment and reading give (R98, R99, R176; the two forms of the command: log 16). -/
def Obligations.TickReadingActsAsOrientationChange : Prop :=
  ∀ (s : State) (d : Nat) (reading : Int) (code : BitVec 10), s.supply.phase = .running → s.supply.tickAt = some d →
    ∃ v u, exec (.secondTick none code) s = .next v ∧ exec (.orientationChange d reading) v = .next u ∧
      exec (.secondTick (some reading) code) s = .next u

/-- ENTRY_STALE and ENTRY_REMOVED: a LIVE entry whose age has reached 2 × interval + 10 becomes STALE and keeps all its
fields; an entry whose age has reached 8 × interval is removed, and a removal from 250 clears ROSTER_FULL. Every other
entry stays, and CONFLICT is evaluated (R75, R76, R78, R80, R82; as events of their own: log 15). -/
def Obligations.SilentEntryGoesStaleAndLeaves : Prop :=
  ∀ (s : State) (e : Entry), s.supply.phase = .running → s.roster.find e.serial = some e →
    (e.state = .live → 2 * e.interval + 10 ≤ e.age →
      ∃ u, exec (.entryStale e.serial) s = .next u ∧ LedFollows s u ∧ AskedOnConflictChange s u ∧
        u.roster.find e.serial = some { e with state := .stale } ∧
        (∀ x, x ≠ e.serial → u.roster.find x = s.roster.find x) ∧
        u = { s with
          roster := { s.roster with entries := u.roster.entries, conflict := u.roster.conflict }
          sender := u.sender
          sched := u.sched
          indicator := u.indicator }) ∧
    (8 * e.interval ≤ e.age →
      ∃ u, exec (.entryRemoved e.serial) s = .next u ∧ LedFollows s u ∧ AskedOnConflictChange s u ∧
        u.roster.find e.serial = none ∧
        (∀ x, x ≠ e.serial → u.roster.find x = s.roster.find x) ∧
        (s.roster.entries.length = 250 → u.roster.full = false) ∧
        (s.roster.entries.length ≠ 250 → u.roster.full = s.roster.full) ∧
        u = { s with roster := u.roster, sender := u.sender, sched := u.sched, indicator := u.indicator } ∧
        u.roster.clash = s.roster.clash)

/-- PRESENCE_TIMER_EXPIRY: the timer stops, and the expiry is a routine request, or under quiet a presence owed.
QUIET_END: quiet-until becomes none, and a presence owed starts the timer for the offset alone, or is requested at once
with an offset of 0 (R114, R115, R120, R121; the expiry beside a waiting PRESENCE under quiet: log 13). -/
def Obligations.PresenceFallsDueAndQuietEnds : Prop :=
  ∀ (s : State) (d : Nat), s.supply.phase = .running →
    (s.sched.timer = some d → s.sched.quietUntil = none →
      ∃ u, exec .presenceTimerExpiry s = .next u ∧ LedFollows s u ∧
        u = { s with
          now := max s.now d
          sender := { s.sender with presence := slotAfterFill s .presence }
          sched := { s.sched with timer := none }
          indicator := u.indicator }) ∧
    (s.sched.timer = some d → s.sched.quietUntil ≠ none →
      ∃ u, exec .presenceTimerExpiry s = .next u ∧ LedFollows s u ∧
        u = { s with
          now := max s.now d
          sched := { s.sched with timer := none, deferred := true }
          indicator := u.indicator }) ∧
    (s.sched.quietUntil = some d →
      ∃ u, exec .quietEnd s = .next u ∧ LedFollows s u ∧
        u = { s with
          now := max s.now d
          sender := { s.sender with presence := presenceAfterQuiet s }
          sched := schedAfterQuiet s (max s.now d)
          indicator := u.indicator })

/-! ### The head supervisor (07) -/

/-- ALARM_ASSERTED in READY begins CONFIRMING with its 2 s and ALARM_RELEASED in CONFIRMING returns to READY with the
timer stopped, each with one routine request; in any other head state the filtered line is noted and nothing else changes.
A head without supply cannot pull the line, a line at that level does not change to it, and a change less than the 50 ms
of the filter after the last one or the return of the supply is not seen (R115, R125, R130, R131, R141; log 18, 47). -/
def Obligations.AlarmEdgesMoveHead : Prop :=
  ∀ (s : State) (t : Nat), s.supply.phase = .running →
    let m := max s.now t
    (s.head.supply = true → s.head.alarm = false → AlarmFiltered s m → s.head.state = .ready →
      ∃ u, exec (.alarmAsserted t) s = .next u ∧ LedFollows s u ∧
        u = { s with
          now := m
          head := { s.head with alarm := true, alarmFrom := m, state := .confirming, timer := some (m + 2000000) }
          sender := { s.sender with presence := presenceAfterRoutine s }
          sched := schedAfterRoutine s
          indicator := u.indicator }) ∧
    (s.head.supply = true → s.head.alarm = false → AlarmFiltered s m → s.head.state ≠ .ready →
      ∃ u, exec (.alarmAsserted t) s = .next u ∧ LedFollows s u ∧
        u = { s with now := m, head := { s.head with alarm := true, alarmFrom := m }, indicator := u.indicator }) ∧
    (s.head.supply = false ∨ s.head.alarm = true ∨ ¬AlarmFiltered s m →
      ∃ u, exec (.alarmAsserted t) s = .next u ∧ LedFollows s u ∧
        u = { s with now := m, indicator := u.indicator }) ∧
    (s.head.supply = true → s.head.alarm = true → AlarmFiltered s m → s.head.state = .confirming →
      ∃ u, exec (.alarmReleased t) s = .next u ∧ LedFollows s u ∧
        u = { s with
          now := m
          head := { s.head with alarm := false, alarmFrom := m, state := .ready, timer := none }
          sender := { s.sender with presence := presenceAfterRoutine s }
          sched := schedAfterRoutine s
          indicator := u.indicator }) ∧
    (s.head.supply = true → s.head.alarm = true → AlarmFiltered s m → s.head.state ≠ .confirming →
      ∃ u, exec (.alarmReleased t) s = .next u ∧ LedFollows s u ∧
        u = { s with now := m, head := { s.head with alarm := false, alarmFrom := m }, indicator := u.indicator }) ∧
    (s.head.supply = false ∨ s.head.alarm = false ∨ ¬AlarmFiltered s m →
      ∃ u, exec (.alarmReleased t) s = .next u ∧ LedFollows s u ∧
        u = { s with now := m, indicator := u.indicator })

/-- SETTLING_END goes to READY, or with the line asserted to CONFIRMING at once; RESETTING_END switches the supply on and
goes to RECOVERING for 5 s; RECOVERING_END goes to READY with count 0 when the line is clear, and when it is asserted and
the count then below 3 switches the supply off and goes to RESETTING for 1 s with the count raised. Each makes one routine
request (R124, R129, R130, R133, R134, R141). The model's choice are that the line is clear at once where the supply goes
(R125; log 18) and that its filter counts from where the supply returns (log 47). -/
def Obligations.HeadTimersMoveHead : Prop :=
  ∀ (s : State) (d : Nat), s.supply.phase = .running → s.head.timer = some d →
    let m := max s.now d
    let asked (head : Head) (u : State) : State := { s with
      now := m
      head := head
      sender := { s.sender with presence := presenceAfterRoutine s }
      sched := schedAfterRoutine s
      indicator := u.indicator }
    (s.head.state = .settling → s.head.alarm = false →
      ∃ u, exec .settlingEnd s = .next u ∧ LedFollows s u ∧
        u = asked { s.head with state := .ready, timer := none } u) ∧
    (s.head.state = .settling → s.head.alarm = true →
      ∃ u, exec .settlingEnd s = .next u ∧ LedFollows s u ∧
        u = asked { s.head with state := .confirming, timer := some (m + 2000000) } u) ∧
    (s.head.state = .resetting →
      ∃ u, exec .resettingEnd s = .next u ∧ LedFollows s u ∧
        u = asked { headSupplied s.head m with state := .recovering, timer := some (m + 5000000) } u) ∧
    (s.head.state = .recovering → s.head.alarm = false →
      ∃ u, exec .recoveringEnd s = .next u ∧ LedFollows s u ∧
        u = asked { s.head with state := .ready, timer := none, cycles := 0 } u) ∧
    (s.head.state = .recovering → s.head.alarm = true → s.head.cycles + 1 < 3 →
      ∃ u, exec .recoveringEnd s = .next u ∧ LedFollows s u ∧
        u = asked { s.head with
          supply := false, alarm := false, state := .resetting, timer := some (m + 1000000)
          cycles := s.head.cycles + 1 } u)

/-- CONFIRMED_ALARM: all of R132 at the confirm timer's expiry with the line asserted. The record is PASSED with number 1
(PASS) or the number raised, held at 255 (REPEAT), and the type held; the last test event and an own journal entry are
written with the uptime of that moment; the TEST slot takes a fill request; the tested latch runs 30 s; the count is 0,
the supply off and the head RESETTING for 1 s; one routine request is made (R132, R138 to R141, R144, R147). The model's
choice are that the journal entry keeps the type (log 45) and that the filtered line is clear at once (R125; log 18). -/
def Obligations.ConfirmedAlarmRecorded : Prop :=
  ∀ (s : State) (d : Nat) (type : HeadType) (number : Nat) (kind : TestKind), s.supply.phase = .running →
    s.head.state = .confirming → s.head.timer = some d → s.head.alarm = true → s.head.headType = some type →
    ((s.head.record.state = .notTested ∧ number = 1 ∧ kind = .pass) ∨
      (s.head.record.state ≠ .notTested ∧ kind = .repeatPass ∧
        ∃ n, s.head.record.number = some n ∧ number = if n < 255 then n + 1 else n)) →
    let m := max s.now d
    ∃ u, exec .confirmedAlarm s = .next u ∧ LedFollows s u ∧
      u = { s with
        now := m
        head := { s.head with
          record := { state := .passed, number := some number, type := some type }
          lastEvent := some { kind := kind, number := number, type := type, uptime := s.supply.uptime }
          testedLatch := some (m + 30000000)
          cycles := 0
          supply := false
          alarm := false
          state := .resetting
          timer := some (m + 1000000) }
        journal := journalAfter s.journal {
          heardAt := s.supply.uptime, serial := s.settings.serial, address := s.settings.address, kind := kind
          number := number, typeTested := type, source := .own }
        sender := { s.sender with test := slotAfterFill s .test, presence := presenceAfterRoutine s }
        sched := schedAfterRoutine s
        indicator := u.indicator }

/-- RECOVERING_END at the third cycle with the line asserted: the head is STUCK with count 3, its supply on and no timer;
the record's state is STUCK with number and type kept; the event STUCK and an own journal entry are written; the TEST slot
takes a fill request; the latch is not set; one routine request is made (R134, R135, R138, R139, R141, R144). That the
journal entry keeps the type is the model's choice (log 45). -/
def Obligations.ThirdCycleDeclaresStuck : Prop :=
  ∀ (s : State) (d : Nat) (type : HeadType) (number : Nat), s.supply.phase = .running →
    s.head.state = .recovering → s.head.timer = some d → s.head.alarm = true → s.head.cycles = 2 →
    s.head.record.number = some number → s.head.record.type = some type →
    ∃ u, exec .recoveringEnd s = .next u ∧ LedFollows s u ∧
      u = { s with
        now := max s.now d
        head := { s.head with
          cycles := 3
          state := .stuck
          timer := none
          record := { state := .stuck, number := some number, type := some type }
          lastEvent := some { kind := .stuck, number := number, type := type, uptime := s.supply.uptime } }
        journal := journalAfter s.journal {
          heardAt := s.supply.uptime, serial := s.settings.serial, address := s.settings.address, kind := .stuck
          number := number, typeTested := type, source := .own }
        sender := { s.sender with test := slotAfterFill s .test, presence := presenceAfterRoutine s }
        sched := schedAfterRoutine s
        indicator := u.indicator }

/-- The identity reading of a SECOND_TICK, which also ages the roster (SecondTickAges) and here carries no reading of the
through-current: a value, by the bands of R126, that differs from the identity and from the previous reading changes
nothing yet; the second of two equal readings changes the identity. A valid type is a head newly fitted: SETTLING for 30
s, count 0, supply on, the record kept only for the type tested. NONE and FAULT stop the timer, set the count to 0, make
the type absent, switch the supply on and keep record, last event and latch. A change of head state or test state makes
one routine request, after the one that a change of CONFLICT makes (R74 to R76, R78, R82, R124, R126 to R128, R136 to
R138, R141, R176). The model's choice are that the filter of the alarm line counts from a supply switched on (log 47) and
that the tick itself makes the changes of ageing (log 15). -/
def Obligations.SecondIdentityReadingMovesHead : Prop :=
  ∀ (s : State) (d : Nat) (code : BitVec 10) (value : Identity), s.supply.phase = .running → s.supply.tickAt = some d →
    IdentityIs code.toNat value → value ≠ s.head.identity →
    let m := max s.now d
    let told (u : State) : Prop :=
      let a : State := if u.roster.conflict.isSome = s.roster.conflict.isSome then s
        else { s with sender := { s.sender with presence := presenceAfterRoutine s }, sched := schedAfterRoutine s }
      if u.head.state = s.head.state ∧ u.head.record.state = s.head.record.state then
        u.sender = a.sender ∧ u.sched = a.sched
      else u.sender = { a.sender with presence := presenceAfterRoutine a } ∧ u.sched = schedAfterRoutine a
    (s.head.previous ≠ some value →
      ∃ u, exec (.secondTick none code) s = .next u ∧ LedFollows s u ∧ told u ∧
        u = afterTick s m { s.head with previous := some value } u) ∧
    (∀ type, s.head.previous = some value → value = .head type →
      ∃ u, exec (.secondTick none code) s = .next u ∧ LedFollows s u ∧ told u ∧
        u = afterTick s m { headSupplied s.head m with
          identity := .head type
          headType := some type
          cycles := 0
          state := .settling
          timer := some (m + 30000000)
          record := if s.head.record.state ≠ .notTested ∧ s.head.record.type = some type then s.head.record
            else { state := .notTested, number := none, type := none } } u) ∧
    (∀ lost, s.head.previous = some value → (value = .noHead ∧ lost = .noHead ∨ value = .fault ∧ lost = .fault) →
      ∃ u, exec (.secondTick none code) s = .next u ∧ LedFollows s u ∧ told u ∧
        u = afterTick s m { headSupplied s.head m with
          identity := value, headType := none, cycles := 0, state := lost, timer := none } u)

/-! ### Isolator, supply and starts (10) -/

/-- SHORT_CRITERION: the through-current over 350 mA either way, or the far side below 8.0 V with the feed side at or
above 14.0 V (either side under UNKNOWN). In CLOSED it opens the isolator for 10 s, with the run at 0, the observation
abandoned, the frame under way told, and one routine request. In TRIAL the count rises: below 3 it waits 10 s again, at 3
it latches with no timer. In OPEN_WAIT and LATCHED, where the criterion does not hold, or in a TRIAL less than 1 ms old (a
hold begins no earlier than the trial: log 46), nothing changes (log 28). The abandoned observation leaves the samples it
has taken in the store, written at its end (log 19) (R3, R42, R44, R100, R163 to R168; which half-cells of the frame are
then unheard: log 11). -/
def Obligations.ShortOpensIsolator : Prop :=
  ∀ (s : State) (t : Nat) (a b through : Int) (r : TailReadings), s.supply.phase = .running →
    let m := max s.now t
    let fallen (far feed : Int) : Prop := far < 8000 ∧ 14000 ≤ feed
    let met : Prop := 35000 < through.natAbs ∨ (s.port.orientation = .feedA ∧ fallen b a) ∨
      (s.port.orientation = .feedB ∧ fallen a b) ∨ (s.port.orientation = .unknown ∧ (fallen a b ∨ fallen b a))
    (met → s.isolator.state = .closed →
      ∃ u, exec (.shortCriterion t ⟨a, b⟩ through r) s = .next u ∧ LedFollows s u ∧
        u = { s with
          now := m
          isolator := { s.isolator with state := .openWait, timer := some (m + 10000000) }
          port := { s.port with run := 0 }
          rx := { s.rx with underWay := s.rx.underWay.map fun f => { f with crossings := f.crossings ++ [m] } }
          sounding := match s.sounding.obs with
            | none => s.sounding
            | some o => soundingCut s.sounding o r m
          sender := { s.sender with presence := presenceAfterRoutine s }
          sched := schedAfterRoutine s
          indicator := u.indicator }) ∧
    let held : Prop := ∀ e, s.isolator.timer = some e → e ≤ m + 99000
    (met → s.isolator.state = .trial → held → s.isolator.failed + 1 < 3 →
      ∃ u, exec (.shortCriterion t ⟨a, b⟩ through r) s = .next u ∧ LedFollows s u ∧
        u = { s with
          now := m
          isolator := { state := .openWait, failed := s.isolator.failed + 1, timer := some (m + 10000000) }
          indicator := u.indicator }) ∧
    (met → s.isolator.state = .trial → held → s.isolator.failed + 1 = 3 →
      ∃ u, exec (.shortCriterion t ⟨a, b⟩ through r) s = .next u ∧ LedFollows s u ∧
        u = { s with
          now := m
          isolator := { state := .latched, failed := 3, timer := none }
          indicator := u.indicator }) ∧
    ((¬met ∨ s.isolator.state = .openWait ∨ s.isolator.state = .latched ∨ (s.isolator.state = .trial ∧ ¬held)) →
      ∃ u, exec (.shortCriterion t ⟨a, b⟩ through r) s = .next u ∧ LedFollows s u ∧
        u = { s with now := m, indicator := u.indicator })

/-- OPEN_WAIT_EXPIRY closes the switch for a trial of 100 ms with the count as it was and no request; TRIAL_EXPIRY returns
to CLOSED with count 0 and one routine request, readings counting from then (log 16), the frame under way told (R3, R100,
R165, R166, R168; which half-cells of it are heard: log 11). -/
def Obligations.IsolatorTriesAndCloses : Prop :=
  ∀ (s : State) (d : Nat), s.supply.phase = .running → s.isolator.timer = some d →
    let m := max s.now d
    (s.isolator.state = .openWait →
      ∃ u, exec .openWaitExpiry s = .next u ∧ LedFollows s u ∧
        u = { s with
          now := m
          isolator := { s.isolator with state := .trial, timer := some (m + 100000) }
          indicator := u.indicator }) ∧
    (s.isolator.state = .trial →
      ∃ u, exec .trialExpiry s = .next u ∧ LedFollows s u ∧
        u = { s with
          now := m
          isolator := { state := .closed, failed := 0, timer := none }
          port := { s.port with readingsFrom := m }
          rx := { s.rx with underWay := s.rx.underWay.map fun f => { f with crossings := f.crossings ++ [m] } }
          sender := { s.sender with presence := presenceAfterRoutine s }
          sched := schedAfterRoutine s
          indicator := u.indicator })

/-- BAND_LOW and BAND_NORMAL in a station that is not held in reset: NORMAL becomes LOW below 17.0 V and LOW becomes
NORMAL at or above 17.5 V; between them the band stays. No request is made; an observation under way notes LOW, and a
return to NORMAL by the beginning of period 0, or at that very moment (log 51), leaves no mark on it. Within the 1 ms for
which a voltage must hold, no band is left for the one before it (R48, R116, R169, R170; log 49). -/
def Obligations.BandMovesBetweenLowAndNormal : Prop :=
  ∀ (s : State) (t mV : Nat), s.supply.phase ≠ .held →
    let m := max s.now t
    (s.supply.band = .normal → s.supply.bandNotBefore ≤ m → 14000 ≤ mV → mV < 17000 →
      ∃ u, exec (.bandLow t mV) s = .next u ∧ LedFollows s u ∧
        u = { s with
          now := m
          supply := { s.supply with band := .low, bandNotBefore := m + 1000 }
          sounding := { s.sounding with obs := s.sounding.obs.map fun o => { o with low := true } }
          indicator := u.indicator }) ∧
    ((s.supply.band ≠ .normal ∨ m < s.supply.bandNotBefore ∨ 17000 ≤ mV) →
      ∃ u, exec (.bandLow t mV) s = .next u ∧ LedFollows s u ∧ u = { s with now := m, indicator := u.indicator }) ∧
    (s.supply.band = .low → s.supply.bandNotBefore ≤ m → 17500 ≤ mV →
      ∃ u, exec (.bandNormal t mV) s = .next u ∧ LedFollows s u ∧
        u = { s with
          now := m
          supply := { s.supply with band := .normal, bandNotBefore := m + 1000 }
          sounding := { s.sounding with
            obs := s.sounding.obs.map fun o => if m ≤ o.tailFrom then { o with low := false } else o }
          indicator := u.indicator }) ∧
    ((s.supply.band ≠ .low ∨ m < s.supply.bandNotBefore ∨ mV < 17500) →
      ∃ u, exec (.bandNormal t mV) s = .next u ∧ LedFollows s u ∧ u = { s with now := m, indicator := u.indicator })

/-- BAND_CRITICAL below 14.0 V, in any phase but held: the chip is held in reset with every block's working state at its
start value, apart from the retained domain, the cutoff and the NV areas; a settings write is cut off (R1, R13, R124,
R162, R169, R171, R172, R181). The model's choice are what the working settings show meanwhile (log 5), the candidate
(log 17), the dark LED (log 22) and that the restart cause stands until the next start (log 30). Less than 1 ms after
NORMAL was entered nothing changes (log 49). What the model itself keeps is as StartValuesKept has it (log 16, 19, 39, 47,
48), and the 100 ms before a start count from here (log 49). -/
def Obligations.CriticalHoldsInReset : Prop :=
  ∀ (s : State) (t mV : Nat), s.supply.phase ≠ .held → mV < 14000 →
    ((s.supply.band = .normal → s.supply.bandNotBefore ≤ max s.now t) →
    ∃ u, exec (.bandCritical t mV) s = .next u ∧
      u = { pending := s.pending
            now := max s.now t
            free := s.free
            retained := s.retained
            port := { cutoffOpen := s.port.cutoffOpen }
            sender := { state := if s.retained.lockout = true then .locked else .waiting }
            settings := { factory := s.settings.factory, record := s.settings.record }
            supply := {
              band := .critical, bandNotBefore := max s.now t + 100000, cause := s.supply.cause, phase := .held }
            indicator := { shown := .dark, since := max s.now t } }) ∧
    (s.supply.band = .normal → max s.now t < s.supply.bandNotBefore →
      ∃ u, exec (.bandCritical t mV) s = .next u ∧ LedFollows s u ∧
        u = { s with now := max s.now t, indicator := u.indicator })

/-- START_BEGIN at or above 15.0 V in a chip held in reset: BROWNOUT keeps the retained domain when the mark is intact and
the domain has kept its contents; else POWER_ON writes the mark, clears the lockout, closes the cutoff and puts the sender
in WAITING. Either begins CLOCK_SETTLE in band LOW with SELFTEST_FAIL clear, uptime 0 and no second tick. Below 15.0 V, or
before the 100 ms can have passed, the chip stays held, and a start bounds no change of band (log 49). That the command
says whether the domain has kept its contents is the model's form (log 30). The chatter guard counts from the start on
(R12; log 50) (R13, R19, R169, R171 to R173). -/
def Obligations.StartKindFollowsRetention : Prop :=
  ∀ (s : State) (t mV : Nat) (kept : Bool), s.supply.phase = .held →
    let m := max s.now t
    let begun (cause : RestartCause) : Supply := { s.supply with
      band := .low, bandNotBefore := 0, cause := cause, phase := .clockSettle, phaseTimer := some (m + 20000)
      selftestFail := false, uptime := 0, tickAt := none }
    (s.supply.bandNotBefore ≤ m → 15000 ≤ mV → s.retained.mark = true → kept = true →
      ∃ u, exec (.startBegin t mV kept) s = .next u ∧ LedFollows s u ∧
        u = { s with
          now := m
          supply := begun .brownout
          port := { s.port with guardFrom := m }
          sender := { s.sender with state := if s.retained.lockout = true then .locked else .waiting }
          indicator := u.indicator }) ∧
    (s.supply.bandNotBefore ≤ m → 15000 ≤ mV → (s.retained.mark = false ∨ kept = false) →
      ∃ u, exec (.startBegin t mV kept) s = .next u ∧ LedFollows s u ∧
        u = { s with
          now := m
          supply := begun .powerOn
          retained := { mark := true, lockout := false }
          port := { s.port with cutoffOpen := false, guardFrom := m }
          sender := { s.sender with state := .waiting }
          indicator := u.indicator }) ∧
    (m < s.supply.bandNotBefore ∨ mV < 15000 →
      ∃ u, exec (.startBegin t mV kept) s = .next u ∧ LedFollows s u ∧ u = { s with now := m, indicator := u.indicator })

/-- The start phases. CLOCK_SETTLE is followed by LOAD_SETTINGS for 2 ms. At its end the NV is read: the serial as read;
the trim as read, or 10000 with SELFTEST_FAIL set when the factory area fails or its trim lies outside 9000..11000; site
and address from a settings record with its mark, its check byte and an address of at most 240, else both 0 with
NV_RECOVERED; the offset is (serial mod 40) × 100 ms; SELF_TEST follows for 160 ms. At its end RUNNING is entered: uptime
0, the second tick, the presence timer for 10 s plus the offset, the head supply on, and 6 ms without sink before the
first idle; SELFTEST_FAIL is set when a check fails and stops nothing (R5, R98, R111, R113, R124, R125, R173 to R176,
R182, R183). The model's choice are the form of the factory area's check (log 23) and, at RUNNING, the moment the filter
of the alarm line counts from (log 47), the moment readings count from (log 16) and the bound on the first idle
(log 39). -/
def Obligations.StartPhasesLeadToRunning : Prop :=
  ∀ (s : State) (d : Nat), s.supply.phaseTimer = some d →
    let m := max s.now d
    (s.supply.phase = .clockSettle →
      ∃ u, exec .clockSettle s = .next u ∧ LedFollows s u ∧
        u = { s with
          now := m
          supply := { s.supply with phase := .loadSettings, phaseTimer := some (m + 2000) }
          indicator := u.indicator }) ∧
    (s.supply.phase = .loadSettings → s.roster.entries = [] →
      let n := s.settings
      let factoryOk : Prop := n.factory.checkOk = true ∧ 9000 ≤ n.factory.trim ∧ n.factory.trim ≤ 11000
      let recordOk : Prop := n.record.mark = true ∧ n.record.address.toNat ≤ 240 ∧ n.record.check =
        ~~~(n.record.site.extractLsb' 8 8 ^^^ n.record.site.extractLsb' 0 8 ^^^ n.record.address)
      ∃ u, exec .loadSettings s = .next u ∧ LedFollows s u ∧
        u = { s with
          now := m
          settings := u.settings
          sched := { s.sched with offset := 100000 * (n.factory.serial.toNat % 40) }
          roster := { s.roster with conflict := none }
          supply := { s.supply with
            phase := .selfTest, phaseTimer := some (m + 160000), selftestFail := u.supply.selftestFail }
          indicator := u.indicator } ∧
        u.settings.factory = n.factory ∧ u.settings.record = n.record ∧ u.settings.serial = n.factory.serial ∧
        (factoryOk → u.settings.trim = n.factory.trim ∧ u.supply.selftestFail = s.supply.selftestFail) ∧
        (¬factoryOk → u.settings.trim = 10000 ∧ u.supply.selftestFail = true) ∧
        (recordOk → u.settings.site = n.record.site ∧ u.settings.address = n.record.address.toNat ∧
          u.settings.recovered = false) ∧
        (¬recordOk → u.settings.site = 0 ∧ u.settings.address = 0 ∧ u.settings.recovered = true)) ∧
    (∀ h r, s.supply.phase = .selfTest →
      ∃ u, exec (.selfTest h r) s = .next u ∧ LedFollows s u ∧
        u = { s with
          now := m
          supply := { s.supply with
            phase := .running
            phaseTimer := none
            uptime := 0
            tickAt := some (m + 1000000)
            selftestFail := u.supply.selftestFail }
          sched := { s.sched with timer := some (m + (10000000 + s.sched.offset)) }
          head := headSupplied s.head m
          port := { s.port with readingsFrom := m }
          rx := { s.rx with idleNotBefore := m + 6000 }
          indicator := u.indicator } ∧
        (s.supply.selftestFail = true → u.supply.selftestFail = true) ∧
        (s.supply.selftestFail = false → (u.supply.selftestFail = false ↔
          (let f : Frame := ⟨2, s.settings.serial, [], checkOf 2 s.settings.serial []⟩
           decodeChannel ((h.dips.map judgeV).take 120) ((h.dips.map judgeV).take 120) = .valid f ∧
           decodeChannel ((h.through.map (judgeI s.port.orientation)).take 120) ((h.dips.map judgeV).take 120)
             = .valid f) ∧
          ¬SomeClipped (vSamples r) (iSamples .unknown r) ∧
          (7680 ≤ vAccumulation (vSamples r) ∧ vAccumulation (vSamples r) ≤ 8704) ∧
          (7680 ≤ iAccumulation (iSamples .unknown r) ∧ iAccumulation (iSamples .unknown r) ≤ 8704))))

/-! ### IR entry, the settings write, the indicator's timers (11) -/

/-- DIGIT, an accepted key 0..9: in IDLE it stages the digit with count 1; in ENTERING with count below 3 it stages value
× 10 + digit; a fourth digit gives error feedback for 1 s and IDLE with nothing staged. The press begins, the three flags
are cleared, the word is the last valid word, and the entry timer runs 10 s while the state is ENTERING (R178, R180, R185,
R187). -/
def Obligations.DigitsAreStaged : Prop :=
  ∀ (s : State) (t : Nat) (w : IrWord) (key : Nat), s.supply.phase = .running →
    AcceptedKey s (max s.now t) w key → key ≤ 9 →
    let m := max s.now t
    (s.ir.mode = .idle →
      ∃ u, exec (.digit t w) s = .next u ∧ LedFollows s u ∧
        u = { s with
          now := m
          ir := portAfterKey s m w .entering (some { value := key, digits := 1 }) (some (m + 10000000))
          indicator := u.indicator }) ∧
    (∀ x, s.ir.mode = .entering → s.ir.staged = some x → x.digits < 3 →
      ∃ u, exec (.digit t w) s = .next u ∧ LedFollows s u ∧
        u = { s with
          now := m
          ir := portAfterKey s m w .entering (some { value := 10 * x.value + key, digits := x.digits + 1 })
            (some (m + 10000000))
          indicator := u.indicator }) ∧
    (∀ x, s.ir.mode = .entering → s.ir.staged = some x → 3 ≤ x.digits →
      ∃ u, exec (.digit t w) s = .next u ∧
        u = { s with now := m, ir := portAfterKey s m w .idle none none, indicator := u.indicator } ∧
        u.indicator.feedback = some { kind := .error, endsAt := m + 1000000 } ∧
        u.indicator.identify = s.indicator.identify)

/-- ENTER and SITE_CLEAR begin a settings write of 40 ms: ENTER in ENTERING with a value of at most 240 writes that
address and the stored site code, or the word's where none is stored; SITE_CLEAR with a stored site writes site 0 and the
stored address. STORING is entered with nothing staged, and the NV record has lost its mark (what else it holds is free:
log 6). ENTER in IDLE or over 240, and SITE_CLEAR without a stored site, give error feedback and IDLE (R178, R180, R181,
R187). -/
def Obligations.KeysBeginSettingsWrite : Prop :=
  ∀ (s : State) (t : Nat) (w : IrWord), s.supply.phase = .running →
    let m := max s.now t
    let writes (c : Instr) (site : Site) (address : Nat) : Prop :=
      ∃ u, exec c s = .next u ∧ LedFollows s u ∧ u.settings.record.mark = false ∧
        u = { s with
          now := m
          free := s.free + 1
          ir := { portAfterKey s m w .storing none none with
            write := some { site := site, address := address, endsAt := m + 40000 } }
          settings := { s.settings with record := u.settings.record }
          indicator := u.indicator }
    let errs (c : Instr) : Prop :=
      ∃ u, exec c s = .next u ∧
        u = { s with now := m, ir := portAfterKey s m w .idle none none, indicator := u.indicator } ∧
        u.indicator.feedback = some { kind := .error, endsAt := m + 1000000 } ∧
        u.indicator.identify = s.indicator.identify
    (∀ x, AcceptedKey s m w 10 → s.ir.mode = .entering → s.ir.staged = some x →
      (x.value ≤ 240 → s.settings.site ≠ 0 → writes (.enter t w) s.settings.site x.value) ∧
      (x.value ≤ 240 → s.settings.site = 0 → writes (.enter t w) (w.extractLsb' 16 16) x.value) ∧
      (240 < x.value → errs (.enter t w))) ∧
    (AcceptedKey s m w 10 → s.ir.mode = .idle → errs (.enter t w)) ∧
    (AcceptedKey s m w 15 → s.settings.site ≠ 0 → writes (.siteClear t w) 0 s.settings.address) ∧
    (AcceptedKey s m w 15 → s.settings.site = 0 → errs (.siteClear t w))

/-- The other keys of R180. CANCEL and CLEAR leave IDLE with nothing staged and no feedback; SOUND is an exempt request
and leaves the entry state, an ENTERING one with its timer restarted; ENTRY_TIMER_EXPIRY leaves IDLE with nothing staged.
CLEAR in STUCK begins a reset cycle with count 0 (one routine request), and sets the isolator's count to 0, a LATCHED one
going to TRIAL for 100 ms (R115, R117, R123, R125, R135, R141, R167, R178, R180). The model's choice are that SOUND under
the lockout leaves no exempt mark (log 14) and that the filtered alarm line is clear at once where CLEAR takes the head's
supply (R125; log 18). -/
def Obligations.KeysActInEntry : Prop :=
  ∀ (s : State) (t : Nat) (w : IrWord), s.supply.phase = .running →
    let m := max s.now t
    (AcceptedKey s m w 11 →
      ∃ u, exec (.cancel t w) s = .next u ∧ LedFollows s u ∧
        u = { s with now := m, ir := portAfterKey s m w .idle none none, indicator := u.indicator }) ∧
    (AcceptedKey s m w 12 →
      ∃ u, exec (.sound t w) s = .next u ∧ LedFollows s u ∧
        u = { s with
          now := m
          ir := portAfterKey s m w s.ir.mode s.ir.staged (if s.ir.mode = .entering then some (m + 10000000) else none)
          sender := { s.sender with presence := presenceAfterExempt s }
          sched := schedAfterExempt s
          indicator := u.indicator }) ∧
    (AcceptedKey s m w 13 →
      ∃ u, exec (.clear t w) s = .next u ∧ LedFollows s u ∧
        u = { s with
          now := m
          ir := portAfterKey s m w .idle none none
          head := if s.head.state = .stuck then { s.head with
              cycles := 0, supply := false, alarm := false, state := .resetting, timer := some (m + 1000000) }
            else s.head
          sender := if s.head.state = .stuck then { s.sender with presence := presenceAfterRoutine s } else s.sender
          sched := if s.head.state = .stuck then schedAfterRoutine s else s.sched
          isolator := if s.isolator.state = .latched then { state := .trial, failed := 0, timer := some (m + 100000) }
            else if s.isolator.state = .closed then s.isolator
            else { s.isolator with failed := 0 }
          indicator := u.indicator }) ∧
    (∀ d, s.ir.entryTimer = some d →
      ∃ u, exec .entryTimerExpiry s = .next u ∧ LedFollows s u ∧
        u = { s with
          now := max s.now d
          ir := { s.ir with mode := .idle, staged := none, entryTimer := none }
          indicator := u.indicator })

/-- RESTART: its first word begins a press and does nothing more, but clears the flags and restarts a running entry timer;
a repeat while no RESTART press has stood for 3 s is only the last valid word; a repeat 3 s or more after it begins an
IR_RESTART start at that moment: every working state is at its start value, the retained domain, the cutoff and the NV
areas are kept, CLOCK_SETTLE runs 20 ms in band LOW, and the sender is LOCKED if the lockout is set (R13, R172, R173,
R178, R179, R184). The model's choice are the working settings before they are read (log 5), the candidate (log 17), what
the model itself keeps, which is as StartValuesKept has it (log 16, 19, 39, 47, 48), that no change of band is bounded
(log 49), that the chatter guard counts anew (log 50), and that exactly 200 ms is within 200 ms and exactly 3 s is 3 s
(log 38). -/
def Obligations.HeldRestartStarts : Prop :=
  ∀ (s : State) (t : Nat) (w : IrWord), s.supply.phase = .running →
    let m := max s.now t
    (AcceptedKey s m w 14 →
      ∃ u, exec (.restart t w) s = .next u ∧ LedFollows s u ∧
        u = { s with
          now := m
          ir := portAfterKey s m w s.ir.mode s.ir.staged (if s.ir.mode = .entering then some (m + 10000000) else none)
          indicator := u.indicator }) ∧
    (RepeatedKey s m w 14 → (∀ p, s.ir.press = some p → p.key = 14 → m < p.since + 3000000) →
      ∃ u, exec (.restart t w) s = .next u ∧ LedFollows s u ∧
        u = { s with
          now := m
          ir := { s.ir with lastValid := some { toggle := w.getLsbD 15, arrived := m } }
          indicator := u.indicator }) ∧
    (∀ p, RepeatedKey s m w 14 → s.ir.press = some p → p.key = 14 → p.since + 3000000 ≤ m →
      ∃ u, exec (.restart t w) s = .next u ∧ u.indicator.feedback = none ∧ u.indicator.identify = none ∧
        u = { pending := s.pending
              now := m
              free := s.free
              retained := s.retained
              port := { cutoffOpen := s.port.cutoffOpen, guardFrom := m }
              sender := { state := if s.retained.lockout = true then .locked else .waiting }
              settings := { factory := s.settings.factory, record := s.settings.record }
              supply := { band := .low, cause := .irRestart, phase := .clockSettle, phaseTimer := some (m + 20000) }
              indicator := u.indicator })

/-- IR_WORD_DISCARDED, in the order of R177: in STORING IR_OVERFLOW; else a wrong check IR_CHECK_ERROR; else a word of
another site than the stored one IR_SITE_MISMATCH with error feedback; else a key over 15 changes nothing; a repeat of a
key other than RESTART is only the last valid word, and abandons a RESTART hold (R177 to R179; the hold: log 25; exactly
200 ms: log 38). -/
def Obligations.DiscardedWordsLeaveFlags : Prop :=
  ∀ (s : State) (t : Nat) (w : IrWord), s.supply.phase = .running →
    let m := max s.now t
    let checkOk : Prop := w.extractLsb' 0 8 = ~~~(w.extractLsb' 24 8 ^^^ w.extractLsb' 16 8 ^^^ w.extractLsb' 8 8)
    let siteOk : Prop := s.settings.site = 0 ∨ w.extractLsb' 16 16 = s.settings.site
    let key := (w.extractLsb' 8 7).toNat
    (s.ir.mode = .storing →
      ∃ u, exec (.irWordDiscarded t w) s = .next u ∧ LedFollows s u ∧
        u = { s with now := m, ir := { s.ir with overflow := true }, indicator := u.indicator }) ∧
    (s.ir.mode ≠ .storing → ¬checkOk →
      ∃ u, exec (.irWordDiscarded t w) s = .next u ∧ LedFollows s u ∧
        u = { s with now := m, ir := { s.ir with checkError := true }, indicator := u.indicator }) ∧
    (s.ir.mode ≠ .storing → checkOk → ¬siteOk →
      ∃ u, exec (.irWordDiscarded t w) s = .next u ∧
        u = { s with now := m, ir := { s.ir with siteMismatch := true }, indicator := u.indicator } ∧
        u.indicator.feedback = some { kind := .error, endsAt := m + 1000000 } ∧
        u.indicator.identify = s.indicator.identify) ∧
    (s.ir.mode ≠ .storing → checkOk → siteOk → 15 < key →
      ∃ u, exec (.irWordDiscarded t w) s = .next u ∧ LedFollows s u ∧
        u = { s with now := m, indicator := u.indicator }) ∧
    (∀ last, s.ir.mode ≠ .storing → checkOk → siteOk → key ≤ 15 → key ≠ 14 → s.ir.lastValid = some last →
      last.toggle = w.getLsbD 15 → m ≤ last.arrived + 200000 →
      ∃ u, exec (.irWordDiscarded t w) s = .next u ∧ LedFollows s u ∧
        u = { s with
          now := m
          ir := { s.ir with
            lastValid := some { toggle := w.getLsbD 15, arrived := m }
            press := if s.ir.press.any (fun p => decide (p.key = 14)) = true then none else s.ir.press }
          indicator := u.indicator })

/-- SETTINGS_WRITE. Read back as programmed, the mark is set, site and address take the written values, NV_RECOVERED is
cleared, CONFLICT is evaluated (its change between shown and not shown a routine request), acknowledge feedback runs 600
ms, and the state is IDLE; a changed address is an exempt request. Read back otherwise, the stored values and NV_RECOVERED
stay, the record lacks its mark, error feedback runs 1 s, and the state is IDLE (R80, R115, R117, R123, R181, R182, R187).
The model's choice are the order of the effects (log 31) and that a changed address under the lockout leaves no exempt
mark (log 14). -/
def Obligations.SettingsWriteEnds : Prop :=
  ∀ (s : State) (x : Write) (site : Site) (address check : Byte), s.supply.phase = .running → s.ir.write = some x →
    x.address ≤ 240 →
    let m := max s.now x.endsAt
    let good : Prop := site = x.site ∧ address = BitVec.ofNat 8 x.address ∧
      check = ~~~(x.site.extractLsb' 8 8 ^^^ x.site.extractLsb' 0 8 ^^^ BitVec.ofNat 8 x.address)
    let idle : IrPort := { s.ir with mode := .idle, write := none }
    let a : State := if (conflictOf x.address s.roster.entries).isSome = s.roster.conflict.isSome then s
      else { s with sender := { s.sender with presence := presenceAfterRoutine s }, sched := schedAfterRoutine s }
    (good →
      ∃ u, exec (.settingsWrite site address check) s = .next u ∧
        u = { s with
          now := m
          settings := { s.settings with
            record := { site := site, address := address, check := check, mark := true }
            site := x.site
            address := x.address
            recovered := false }
          roster := { s.roster with conflict := conflictOf x.address s.roster.entries }
          sender := if x.address = s.settings.address then a.sender
            else { a.sender with presence := presenceAfterExempt a }
          sched := if x.address = s.settings.address then a.sched else schedAfterExempt a
          ir := idle
          indicator := u.indicator } ∧
        u.indicator.feedback = some { kind := .acknowledge, endsAt := m + 600000 } ∧
        u.indicator.identify = s.indicator.identify) ∧
    (¬good →
      ∃ u, exec (.settingsWrite site address check) s = .next u ∧
        u = { s with
          now := m
          settings := { s.settings with
            record := { site := site, address := address, check := check, mark := false } }
          ir := idle
          indicator := u.indicator } ∧
        u.indicator.feedback = some { kind := .error, endsAt := m + 1000000 } ∧
        u.indicator.identify = s.indicator.identify)

/-- TESTED_LATCH_EXPIRY, IR_FEEDBACK_END and IDENTIFY_TIMER_EXPIRY: the latch is cleared, the feedback ends, the timer
stops, and the LED falls to the next condition present (R140, R185 to R187). -/
def Obligations.LatchAndLedTimersRunOut : Prop :=
  ∀ s : State, s.supply.phase = .running →
    (∀ d, s.head.testedLatch = some d →
      ∃ u, exec .testedLatchExpiry s = .next u ∧ LedFollows s u ∧
        u = { s with now := max s.now d, head := { s.head with testedLatch := none }, indicator := u.indicator }) ∧
    (∀ f, s.indicator.feedback = some f →
      ∃ u, exec .irFeedbackEnd s = .next u ∧
        LedFollows { s with indicator := { s.indicator with feedback := none } } u ∧
        u = { s with now := max s.now f.endsAt, indicator := u.indicator }) ∧
    (∀ d, s.indicator.identify = some d →
      ∃ u, exec .identifyTimerExpiry s = .next u ∧
        LedFollows { s with indicator := { s.indicator with identify := none } } u ∧
        u = { s with now := max s.now d, indicator := u.indicator })
end

