-- ==== Sys2Proof/Laws/State.lean ====
section
/-! SUPPORT. What each plain update of the state leaves in each of its fields: one lemma for each field of each update, so that no
later proof unfolds a record update. -/

namespace Sys2Proof.Machine

variable (s : State)

/-! ### `State.advance` -/

@[simp] theorem State.advance_pending (t : Nat) : (s.advance t).pending = s.pending := rfl
@[simp] theorem State.advance_now (t : Nat) : (s.advance t).now = max s.now t := rfl
@[simp] theorem State.advance_free (t : Nat) : (s.advance t).free = s.free := rfl
@[simp] theorem State.advance_retained (t : Nat) : (s.advance t).retained = s.retained := rfl
@[simp] theorem State.advance_port (t : Nat) : (s.advance t).port = s.port := rfl
@[simp] theorem State.advance_rx (t : Nat) : (s.advance t).rx = s.rx := rfl
@[simp] theorem State.advance_sender (t : Nat) : (s.advance t).sender = s.sender := rfl
@[simp] theorem State.advance_sounding (t : Nat) : (s.advance t).sounding = s.sounding := rfl
@[simp] theorem State.advance_roster (t : Nat) : (s.advance t).roster = s.roster := rfl
@[simp] theorem State.advance_sched (t : Nat) : (s.advance t).sched = s.sched := rfl
@[simp] theorem State.advance_head (t : Nat) : (s.advance t).head = s.head := rfl
@[simp] theorem State.advance_journal (t : Nat) : (s.advance t).journal = s.journal := rfl
@[simp] theorem State.advance_reply (t : Nat) : (s.advance t).reply = s.reply := rfl
@[simp] theorem State.advance_isolator (t : Nat) : (s.advance t).isolator = s.isolator := rfl
@[simp] theorem State.advance_supply (t : Nat) : (s.advance t).supply = s.supply := rfl
@[simp] theorem State.advance_settings (t : Nat) : (s.advance t).settings = s.settings := rfl
@[simp] theorem State.advance_ir (t : Nat) : (s.advance t).ir = s.ir := rfl
@[simp] theorem State.advance_indicator (t : Nat) : (s.advance t).indicator = s.indicator := rfl

/-! ### `State.setSlot` -/

@[simp] theorem State.setSlot_pending (k : OutKind) (v : Slot) : (s.setSlot k v).pending = s.pending := rfl
@[simp] theorem State.setSlot_now (k : OutKind) (v : Slot) : (s.setSlot k v).now = s.now := rfl
@[simp] theorem State.setSlot_free (k : OutKind) (v : Slot) : (s.setSlot k v).free = s.free := rfl
@[simp] theorem State.setSlot_retained (k : OutKind) (v : Slot) : (s.setSlot k v).retained = s.retained := rfl
@[simp] theorem State.setSlot_port (k : OutKind) (v : Slot) : (s.setSlot k v).port = s.port := rfl
@[simp] theorem State.setSlot_rx (k : OutKind) (v : Slot) : (s.setSlot k v).rx = s.rx := rfl
@[simp] theorem State.setSlot_sender (k : OutKind) (v : Slot) : (s.setSlot k v).sender = s.sender.setSlot k v := rfl
@[simp] theorem State.setSlot_sounding (k : OutKind) (v : Slot) : (s.setSlot k v).sounding = s.sounding := rfl
@[simp] theorem State.setSlot_roster (k : OutKind) (v : Slot) : (s.setSlot k v).roster = s.roster := rfl
@[simp] theorem State.setSlot_sched (k : OutKind) (v : Slot) : (s.setSlot k v).sched = s.sched := rfl
@[simp] theorem State.setSlot_head (k : OutKind) (v : Slot) : (s.setSlot k v).head = s.head := rfl
@[simp] theorem State.setSlot_journal (k : OutKind) (v : Slot) : (s.setSlot k v).journal = s.journal := rfl
@[simp] theorem State.setSlot_reply (k : OutKind) (v : Slot) : (s.setSlot k v).reply = s.reply := rfl
@[simp] theorem State.setSlot_isolator (k : OutKind) (v : Slot) : (s.setSlot k v).isolator = s.isolator := rfl
@[simp] theorem State.setSlot_supply (k : OutKind) (v : Slot) : (s.setSlot k v).supply = s.supply := rfl
@[simp] theorem State.setSlot_settings (k : OutKind) (v : Slot) : (s.setSlot k v).settings = s.settings := rfl
@[simp] theorem State.setSlot_ir (k : OutKind) (v : Slot) : (s.setSlot k v).ir = s.ir := rfl
@[simp] theorem State.setSlot_indicator (k : OutKind) (v : Slot) : (s.setSlot k v).indicator = s.indicator := rfl

/-! ### `State.withEntries` -/

@[simp] theorem State.withEntries_pending (es : List Entry) : (s.withEntries es).pending = s.pending := rfl
@[simp] theorem State.withEntries_now (es : List Entry) : (s.withEntries es).now = s.now := rfl
@[simp] theorem State.withEntries_free (es : List Entry) : (s.withEntries es).free = s.free := rfl
@[simp] theorem State.withEntries_retained (es : List Entry) : (s.withEntries es).retained = s.retained := rfl
@[simp] theorem State.withEntries_port (es : List Entry) : (s.withEntries es).port = s.port := rfl
@[simp] theorem State.withEntries_rx (es : List Entry) : (s.withEntries es).rx = s.rx := rfl
@[simp] theorem State.withEntries_sender (es : List Entry) : (s.withEntries es).sender = s.sender := rfl
@[simp] theorem State.withEntries_sounding (es : List Entry) : (s.withEntries es).sounding = s.sounding := rfl
@[simp] theorem State.withEntries_roster (es : List Entry) : (s.withEntries es).roster = { s.roster with entries := es } := rfl
@[simp] theorem State.withEntries_sched (es : List Entry) : (s.withEntries es).sched = s.sched := rfl
@[simp] theorem State.withEntries_head (es : List Entry) : (s.withEntries es).head = s.head := rfl
@[simp] theorem State.withEntries_journal (es : List Entry) : (s.withEntries es).journal = s.journal := rfl
@[simp] theorem State.withEntries_reply (es : List Entry) : (s.withEntries es).reply = s.reply := rfl
@[simp] theorem State.withEntries_isolator (es : List Entry) : (s.withEntries es).isolator = s.isolator := rfl
@[simp] theorem State.withEntries_supply (es : List Entry) : (s.withEntries es).supply = s.supply := rfl
@[simp] theorem State.withEntries_settings (es : List Entry) : (s.withEntries es).settings = s.settings := rfl
@[simp] theorem State.withEntries_ir (es : List Entry) : (s.withEntries es).ir = s.ir := rfl
@[simp] theorem State.withEntries_indicator (es : List Entry) : (s.withEntries es).indicator = s.indicator := rfl

/-! ### `State.withHead` -/

@[simp] theorem State.withHead_pending (h : Head) : (s.withHead h).pending = s.pending := rfl
@[simp] theorem State.withHead_now (h : Head) : (s.withHead h).now = s.now := rfl
@[simp] theorem State.withHead_free (h : Head) : (s.withHead h).free = s.free := rfl
@[simp] theorem State.withHead_retained (h : Head) : (s.withHead h).retained = s.retained := rfl
@[simp] theorem State.withHead_port (h : Head) : (s.withHead h).port = s.port := rfl
@[simp] theorem State.withHead_rx (h : Head) : (s.withHead h).rx = s.rx := rfl
@[simp] theorem State.withHead_sender (h : Head) : (s.withHead h).sender = s.sender := rfl
@[simp] theorem State.withHead_sounding (h : Head) : (s.withHead h).sounding = s.sounding := rfl
@[simp] theorem State.withHead_roster (h : Head) : (s.withHead h).roster = s.roster := rfl
@[simp] theorem State.withHead_sched (h : Head) : (s.withHead h).sched = s.sched := rfl
@[simp] theorem State.withHead_head (h : Head) : (s.withHead h).head = h := rfl
@[simp] theorem State.withHead_journal (h : Head) : (s.withHead h).journal = s.journal := rfl
@[simp] theorem State.withHead_reply (h : Head) : (s.withHead h).reply = s.reply := rfl
@[simp] theorem State.withHead_isolator (h : Head) : (s.withHead h).isolator = s.isolator := rfl
@[simp] theorem State.withHead_supply (h : Head) : (s.withHead h).supply = s.supply := rfl
@[simp] theorem State.withHead_settings (h : Head) : (s.withHead h).settings = s.settings := rfl
@[simp] theorem State.withHead_ir (h : Head) : (s.withHead h).ir = s.ir := rfl
@[simp] theorem State.withHead_indicator (h : Head) : (s.withHead h).indicator = s.indicator := rfl

/-! ### `State.withIr` -/

@[simp] theorem State.withIr_pending (x : IrPort) : (s.withIr x).pending = s.pending := rfl
@[simp] theorem State.withIr_now (x : IrPort) : (s.withIr x).now = s.now := rfl
@[simp] theorem State.withIr_free (x : IrPort) : (s.withIr x).free = s.free := rfl
@[simp] theorem State.withIr_retained (x : IrPort) : (s.withIr x).retained = s.retained := rfl
@[simp] theorem State.withIr_port (x : IrPort) : (s.withIr x).port = s.port := rfl
@[simp] theorem State.withIr_rx (x : IrPort) : (s.withIr x).rx = s.rx := rfl
@[simp] theorem State.withIr_sender (x : IrPort) : (s.withIr x).sender = s.sender := rfl
@[simp] theorem State.withIr_sounding (x : IrPort) : (s.withIr x).sounding = s.sounding := rfl
@[simp] theorem State.withIr_roster (x : IrPort) : (s.withIr x).roster = s.roster := rfl
@[simp] theorem State.withIr_sched (x : IrPort) : (s.withIr x).sched = s.sched := rfl
@[simp] theorem State.withIr_head (x : IrPort) : (s.withIr x).head = s.head := rfl
@[simp] theorem State.withIr_journal (x : IrPort) : (s.withIr x).journal = s.journal := rfl
@[simp] theorem State.withIr_reply (x : IrPort) : (s.withIr x).reply = s.reply := rfl
@[simp] theorem State.withIr_isolator (x : IrPort) : (s.withIr x).isolator = s.isolator := rfl
@[simp] theorem State.withIr_supply (x : IrPort) : (s.withIr x).supply = s.supply := rfl
@[simp] theorem State.withIr_settings (x : IrPort) : (s.withIr x).settings = s.settings := rfl
@[simp] theorem State.withIr_ir (x : IrPort) : (s.withIr x).ir = x := rfl
@[simp] theorem State.withIr_indicator (x : IrPort) : (s.withIr x).indicator = s.indicator := rfl

/-! ### `State.withBand` -/

@[simp] theorem State.withBand_pending (b : Band) : (s.withBand b).pending = s.pending := rfl
@[simp] theorem State.withBand_now (b : Band) : (s.withBand b).now = s.now := rfl
@[simp] theorem State.withBand_free (b : Band) : (s.withBand b).free = s.free := rfl
@[simp] theorem State.withBand_retained (b : Band) : (s.withBand b).retained = s.retained := rfl
@[simp] theorem State.withBand_port (b : Band) : (s.withBand b).port = s.port := rfl
@[simp] theorem State.withBand_rx (b : Band) : (s.withBand b).rx = s.rx := rfl
@[simp] theorem State.withBand_sender (b : Band) : (s.withBand b).sender = s.sender := rfl
@[simp] theorem State.withBand_sounding (b : Band) : (s.withBand b).sounding = s.sounding := rfl
@[simp] theorem State.withBand_roster (b : Band) : (s.withBand b).roster = s.roster := rfl
@[simp] theorem State.withBand_sched (b : Band) : (s.withBand b).sched = s.sched := rfl
@[simp] theorem State.withBand_head (b : Band) : (s.withBand b).head = s.head := rfl
@[simp] theorem State.withBand_journal (b : Band) : (s.withBand b).journal = s.journal := rfl
@[simp] theorem State.withBand_reply (b : Band) : (s.withBand b).reply = s.reply := rfl
@[simp] theorem State.withBand_isolator (b : Band) : (s.withBand b).isolator = s.isolator := rfl
@[simp] theorem State.withBand_supply (b : Band) : (s.withBand b).supply =
    { s.supply with band := b, bandNotBefore := s.now + Config.bandHold } := rfl
@[simp] theorem State.withBand_settings (b : Band) : (s.withBand b).settings = s.settings := rfl
@[simp] theorem State.withBand_ir (b : Band) : (s.withBand b).ir = s.ir := rfl
@[simp] theorem State.withBand_indicator (b : Band) : (s.withBand b).indicator = s.indicator := rfl

/-! ### The sender's slots -/

theorem LineSender.slot_setSlot (x : LineSender) (k j : OutKind) (v : Slot) :
    (x.setSlot k v).slot j = if j = k then v else x.slot j := by
  cases k <;> cases j <;> rfl

@[simp] theorem LineSender.slot_setSlot_same (x : LineSender) (k : OutKind) (v : Slot) : (x.setSlot k v).slot k = v := by
  cases k <;> rfl

@[simp] theorem LineSender.setSlot_state (x : LineSender) (k : OutKind) (v : Slot) : (x.setSlot k v).state = x.state := by
  cases k <;> rfl

@[simp] theorem LineSender.setSlot_outgoing (x : LineSender) (k : OutKind) (v : Slot) :
    (x.setSlot k v).outgoing = x.outgoing := by
  cases k <;> rfl

@[simp] theorem LineSender.setSlot_tailAt (x : LineSender) (k : OutKind) (v : Slot) : (x.setSlot k v).tailAt = x.tailAt := by
  cases k <;> rfl

@[simp] theorem State.onLine_setSlot (k j : OutKind) (v : Slot) : (s.setSlot k v).onLine j = s.onLine j := by
  simp [State.onLine]

end Sys2Proof.Machine
end

