-- ==== Sys2Proof/Laws/Frames.lean ====
section
/-! SUPPORT. Frames of the shared operations: for each of them one lemma that names every field it leaves as it was. -/

namespace Sys2Proof.Machine

variable (s : State)

/-! ### Indicator, slots, requests (Ops) -/

@[simp] theorem State.refreshIndicator_frame :
    (s.refreshIndicator).pending = s.pending ∧ (s.refreshIndicator).now = s.now ∧
    (s.refreshIndicator).free = s.free ∧ (s.refreshIndicator).retained = s.retained ∧
    (s.refreshIndicator).port = s.port ∧ (s.refreshIndicator).rx = s.rx ∧ (s.refreshIndicator).sender = s.sender ∧
    (s.refreshIndicator).sounding = s.sounding ∧ (s.refreshIndicator).roster = s.roster ∧
    (s.refreshIndicator).sched = s.sched ∧ (s.refreshIndicator).head = s.head ∧
    (s.refreshIndicator).journal = s.journal ∧ (s.refreshIndicator).reply = s.reply ∧
    (s.refreshIndicator).isolator = s.isolator ∧ (s.refreshIndicator).supply = s.supply ∧
    (s.refreshIndicator).settings = s.settings ∧ (s.refreshIndicator).ir = s.ir := by
  unfold State.refreshIndicator; (repeat' split) <;> simp

@[simp] theorem giveFeedback_frame (k : FeedbackKind) :
    (giveFeedback k s).pending = s.pending ∧ (giveFeedback k s).now = s.now ∧ (giveFeedback k s).free = s.free ∧
    (giveFeedback k s).retained = s.retained ∧ (giveFeedback k s).port = s.port ∧ (giveFeedback k s).rx = s.rx ∧
    (giveFeedback k s).sender = s.sender ∧ (giveFeedback k s).sounding = s.sounding ∧
    (giveFeedback k s).roster = s.roster ∧ (giveFeedback k s).sched = s.sched ∧ (giveFeedback k s).head = s.head ∧
    (giveFeedback k s).journal = s.journal ∧ (giveFeedback k s).reply = s.reply ∧
    (giveFeedback k s).isolator = s.isolator ∧ (giveFeedback k s).supply = s.supply ∧
    (giveFeedback k s).settings = s.settings ∧ (giveFeedback k s).ir = s.ir := by
  unfold giveFeedback; (repeat' split) <;> simp

@[simp] theorem fillSlot_frame (k : OutKind) :
    (fillSlot k s).pending = s.pending ∧ (fillSlot k s).now = s.now ∧ (fillSlot k s).free = s.free ∧
    (fillSlot k s).retained = s.retained ∧ (fillSlot k s).port = s.port ∧ (fillSlot k s).rx = s.rx ∧
    (fillSlot k s).sounding = s.sounding ∧ (fillSlot k s).roster = s.roster ∧ (fillSlot k s).sched = s.sched ∧
    (fillSlot k s).head = s.head ∧ (fillSlot k s).journal = s.journal ∧ (fillSlot k s).reply = s.reply ∧
    (fillSlot k s).isolator = s.isolator ∧ (fillSlot k s).supply = s.supply ∧ (fillSlot k s).settings = s.settings ∧
    (fillSlot k s).ir = s.ir ∧ (fillSlot k s).indicator = s.indicator := by
  unfold fillSlot; (repeat' split) <;> simp

@[simp] theorem defer_frame :
    (defer s).pending = s.pending ∧ (defer s).now = s.now ∧ (defer s).free = s.free ∧
    (defer s).retained = s.retained ∧ (defer s).port = s.port ∧ (defer s).rx = s.rx ∧ (defer s).sender = s.sender ∧
    (defer s).sounding = s.sounding ∧ (defer s).roster = s.roster ∧ (defer s).head = s.head ∧
    (defer s).journal = s.journal ∧ (defer s).reply = s.reply ∧ (defer s).isolator = s.isolator ∧
    (defer s).supply = s.supply ∧ (defer s).settings = s.settings ∧ (defer s).ir = s.ir ∧
    (defer s).indicator = s.indicator := by
  unfold defer; simp

@[simp] theorem holdBack_frame :
    (holdBack s).pending = s.pending ∧ (holdBack s).now = s.now ∧ (holdBack s).free = s.free ∧
    (holdBack s).retained = s.retained ∧ (holdBack s).port = s.port ∧ (holdBack s).rx = s.rx ∧
    (holdBack s).sounding = s.sounding ∧ (holdBack s).roster = s.roster ∧ (holdBack s).head = s.head ∧
    (holdBack s).journal = s.journal ∧ (holdBack s).reply = s.reply ∧ (holdBack s).isolator = s.isolator ∧
    (holdBack s).supply = s.supply ∧ (holdBack s).settings = s.settings ∧ (holdBack s).ir = s.ir ∧
    (holdBack s).indicator = s.indicator := by
  unfold holdBack; (repeat' split) <;> simp

@[simp] theorem routineRequest_frame :
    (routineRequest s).pending = s.pending ∧ (routineRequest s).now = s.now ∧ (routineRequest s).free = s.free ∧
    (routineRequest s).retained = s.retained ∧ (routineRequest s).port = s.port ∧ (routineRequest s).rx = s.rx ∧
    (routineRequest s).sounding = s.sounding ∧ (routineRequest s).roster = s.roster ∧
    (routineRequest s).head = s.head ∧ (routineRequest s).journal = s.journal ∧ (routineRequest s).reply = s.reply ∧
    (routineRequest s).isolator = s.isolator ∧ (routineRequest s).supply = s.supply ∧
    (routineRequest s).settings = s.settings ∧ (routineRequest s).ir = s.ir ∧
    (routineRequest s).indicator = s.indicator := by
  unfold routineRequest; (repeat' split) <;> simp

@[simp] theorem exemptRequest_frame :
    (exemptRequest s).pending = s.pending ∧ (exemptRequest s).now = s.now ∧ (exemptRequest s).free = s.free ∧
    (exemptRequest s).retained = s.retained ∧ (exemptRequest s).port = s.port ∧ (exemptRequest s).rx = s.rx ∧
    (exemptRequest s).sounding = s.sounding ∧ (exemptRequest s).roster = s.roster ∧ (exemptRequest s).head = s.head ∧
    (exemptRequest s).journal = s.journal ∧ (exemptRequest s).reply = s.reply ∧
    (exemptRequest s).isolator = s.isolator ∧ (exemptRequest s).supply = s.supply ∧
    (exemptRequest s).settings = s.settings ∧ (exemptRequest s).ir = s.ir ∧
    (exemptRequest s).indicator = s.indicator := by
  unfold exemptRequest; (repeat' split) <;> simp

@[simp] theorem startPresenceTimer_frame :
    (startPresenceTimer s).pending = s.pending ∧ (startPresenceTimer s).now = s.now ∧
    (startPresenceTimer s).free = s.free ∧ (startPresenceTimer s).retained = s.retained ∧
    (startPresenceTimer s).port = s.port ∧ (startPresenceTimer s).rx = s.rx ∧
    (startPresenceTimer s).sender = s.sender ∧ (startPresenceTimer s).sounding = s.sounding ∧
    (startPresenceTimer s).roster = s.roster ∧ (startPresenceTimer s).head = s.head ∧
    (startPresenceTimer s).journal = s.journal ∧ (startPresenceTimer s).reply = s.reply ∧
    (startPresenceTimer s).isolator = s.isolator ∧ (startPresenceTimer s).supply = s.supply ∧
    (startPresenceTimer s).settings = s.settings ∧ (startPresenceTimer s).ir = s.ir ∧
    (startPresenceTimer s).indicator = s.indicator := by
  unfold startPresenceTimer; simp

@[simp] theorem tellOwner_frame (k : OutKind) :
    (tellOwner k s).pending = s.pending ∧ (tellOwner k s).now = s.now ∧ (tellOwner k s).free = s.free ∧
    (tellOwner k s).retained = s.retained ∧ (tellOwner k s).port = s.port ∧ (tellOwner k s).rx = s.rx ∧
    (tellOwner k s).sender = s.sender ∧ (tellOwner k s).sounding = s.sounding ∧ (tellOwner k s).roster = s.roster ∧
    (tellOwner k s).head = s.head ∧ (tellOwner k s).journal = s.journal ∧ (tellOwner k s).isolator = s.isolator ∧
    (tellOwner k s).supply = s.supply ∧ (tellOwner k s).settings = s.settings ∧ (tellOwner k s).ir = s.ir ∧
    (tellOwner k s).indicator = s.indicator := by
  unfold tellOwner; (repeat' split) <;> simp

@[simp] theorem messageEnded_frame (k : OutKind) :
    (messageEnded k s).pending = s.pending ∧ (messageEnded k s).now = s.now ∧ (messageEnded k s).free = s.free ∧
    (messageEnded k s).retained = s.retained ∧ (messageEnded k s).port = s.port ∧ (messageEnded k s).rx = s.rx ∧
    (messageEnded k s).sounding = s.sounding ∧ (messageEnded k s).roster = s.roster ∧
    (messageEnded k s).head = s.head ∧ (messageEnded k s).journal = s.journal ∧
    (messageEnded k s).isolator = s.isolator ∧ (messageEnded k s).supply = s.supply ∧
    (messageEnded k s).settings = s.settings ∧ (messageEnded k s).ir = s.ir ∧
    (messageEnded k s).indicator = s.indicator := by
  cases k <;> simp only [messageEnded] <;> (repeat' split) <;> simp

@[simp] theorem messageRetried_frame (k : OutKind) (n : Nat) :
    (messageRetried k n s).pending = s.pending ∧ (messageRetried k n s).now = s.now ∧
    (messageRetried k n s).free = s.free ∧ (messageRetried k n s).retained = s.retained ∧
    (messageRetried k n s).port = s.port ∧ (messageRetried k n s).rx = s.rx ∧
    (messageRetried k n s).sounding = s.sounding ∧ (messageRetried k n s).roster = s.roster ∧
    (messageRetried k n s).head = s.head ∧ (messageRetried k n s).journal = s.journal ∧
    (messageRetried k n s).reply = s.reply ∧ (messageRetried k n s).isolator = s.isolator ∧
    (messageRetried k n s).supply = s.supply ∧ (messageRetried k n s).settings = s.settings ∧
    (messageRetried k n s).ir = s.ir ∧ (messageRetried k n s).indicator = s.indicator := by
  cases k <;> simp [messageRetried]

@[simp] theorem endQuiet_frame :
    (endQuiet s).pending = s.pending ∧ (endQuiet s).now = s.now ∧ (endQuiet s).free = s.free ∧
    (endQuiet s).retained = s.retained ∧ (endQuiet s).port = s.port ∧ (endQuiet s).rx = s.rx ∧
    (endQuiet s).sounding = s.sounding ∧ (endQuiet s).roster = s.roster ∧ (endQuiet s).head = s.head ∧
    (endQuiet s).journal = s.journal ∧ (endQuiet s).reply = s.reply ∧ (endQuiet s).isolator = s.isolator ∧
    (endQuiet s).supply = s.supply ∧ (endQuiet s).settings = s.settings ∧ (endQuiet s).ir = s.ir ∧
    (endQuiet s).indicator = s.indicator := by
  unfold endQuiet; (repeat' split) <;> simp

@[simp] theorem takeQuiet_frame (d : Nat) :
    (takeQuiet d s).pending = s.pending ∧ (takeQuiet d s).now = s.now ∧ (takeQuiet d s).free = s.free ∧
    (takeQuiet d s).retained = s.retained ∧ (takeQuiet d s).port = s.port ∧ (takeQuiet d s).rx = s.rx ∧
    (takeQuiet d s).sounding = s.sounding ∧ (takeQuiet d s).roster = s.roster ∧ (takeQuiet d s).head = s.head ∧
    (takeQuiet d s).journal = s.journal ∧ (takeQuiet d s).reply = s.reply ∧ (takeQuiet d s).isolator = s.isolator ∧
    (takeQuiet d s).supply = s.supply ∧ (takeQuiet d s).settings = s.settings ∧ (takeQuiet d s).ir = s.ir ∧
    (takeQuiet d s).indicator = s.indicator := by
  unfold takeQuiet; (repeat' split) <;> simp

/-! ### Roster (RosterOps) -/

@[simp] theorem evaluateConflict_frame :
    (evaluateConflict s).pending = s.pending ∧ (evaluateConflict s).now = s.now ∧
    (evaluateConflict s).free = s.free ∧ (evaluateConflict s).retained = s.retained ∧
    (evaluateConflict s).port = s.port ∧ (evaluateConflict s).rx = s.rx ∧
    (evaluateConflict s).sounding = s.sounding ∧ (evaluateConflict s).head = s.head ∧
    (evaluateConflict s).journal = s.journal ∧ (evaluateConflict s).reply = s.reply ∧
    (evaluateConflict s).isolator = s.isolator ∧ (evaluateConflict s).supply = s.supply ∧
    (evaluateConflict s).settings = s.settings ∧ (evaluateConflict s).ir = s.ir ∧
    (evaluateConflict s).indicator = s.indicator := by
  simp only [evaluateConflict]; split <;> simp

@[simp] theorem reclassifyAll_frame :
    (reclassifyAll s).pending = s.pending ∧ (reclassifyAll s).now = s.now ∧ (reclassifyAll s).free = s.free ∧
    (reclassifyAll s).retained = s.retained ∧ (reclassifyAll s).port = s.port ∧ (reclassifyAll s).rx = s.rx ∧
    (reclassifyAll s).sender = s.sender ∧ (reclassifyAll s).sounding = s.sounding ∧
    (reclassifyAll s).sched = s.sched ∧ (reclassifyAll s).head = s.head ∧ (reclassifyAll s).journal = s.journal ∧
    (reclassifyAll s).reply = s.reply ∧ (reclassifyAll s).isolator = s.isolator ∧
    (reclassifyAll s).supply = s.supply ∧ (reclassifyAll s).settings = s.settings ∧ (reclassifyAll s).ir = s.ir ∧
    (reclassifyAll s).indicator = s.indicator := by
  unfold reclassifyAll; simp

@[simp] theorem refreshEntry_frame (via : Via) (m : Message) (e : Entry) :
    (refreshEntry via m e s).pending = s.pending ∧ (refreshEntry via m e s).now = s.now ∧
    (refreshEntry via m e s).free = s.free ∧ (refreshEntry via m e s).retained = s.retained ∧
    (refreshEntry via m e s).port = s.port ∧ (refreshEntry via m e s).rx = s.rx ∧
    (refreshEntry via m e s).sounding = s.sounding ∧ (refreshEntry via m e s).head = s.head ∧
    (refreshEntry via m e s).journal = s.journal ∧ (refreshEntry via m e s).reply = s.reply ∧
    (refreshEntry via m e s).isolator = s.isolator ∧ (refreshEntry via m e s).supply = s.supply ∧
    (refreshEntry via m e s).settings = s.settings ∧ (refreshEntry via m e s).ir = s.ir ∧
    (refreshEntry via m e s).indicator = s.indicator := by
  simp [refreshEntry]

@[simp] theorem enterAmong_frame (es : List Entry) (x : Serial) (via : Via) (m : Message) :
    (enterAmong es x via m s).pending = s.pending ∧ (enterAmong es x via m s).now = s.now ∧
    (enterAmong es x via m s).free = s.free ∧ (enterAmong es x via m s).retained = s.retained ∧
    (enterAmong es x via m s).port = s.port ∧ (enterAmong es x via m s).rx = s.rx ∧
    (enterAmong es x via m s).sounding = s.sounding ∧ (enterAmong es x via m s).head = s.head ∧
    (enterAmong es x via m s).journal = s.journal ∧ (enterAmong es x via m s).reply = s.reply ∧
    (enterAmong es x via m s).isolator = s.isolator ∧ (enterAmong es x via m s).supply = s.supply ∧
    (enterAmong es x via m s).settings = s.settings ∧ (enterAmong es x via m s).ir = s.ir ∧
    (enterAmong es x via m s).indicator = s.indicator := by
  simp [enterAmong]

@[simp] theorem takeNewcomer_frame (x : Serial) (via : Via) (m : Message) :
    (takeNewcomer x via m s).pending = s.pending ∧ (takeNewcomer x via m s).now = s.now ∧
    (takeNewcomer x via m s).free = s.free ∧ (takeNewcomer x via m s).retained = s.retained ∧
    (takeNewcomer x via m s).port = s.port ∧ (takeNewcomer x via m s).rx = s.rx ∧
    (takeNewcomer x via m s).sounding = s.sounding ∧ (takeNewcomer x via m s).head = s.head ∧
    (takeNewcomer x via m s).journal = s.journal ∧ (takeNewcomer x via m s).reply = s.reply ∧
    (takeNewcomer x via m s).isolator = s.isolator ∧ (takeNewcomer x via m s).supply = s.supply ∧
    (takeNewcomer x via m s).settings = s.settings ∧ (takeNewcomer x via m s).ir = s.ir ∧
    (takeNewcomer x via m s).indicator = s.indicator := by
  unfold takeNewcomer; (repeat' split) <;> simp

@[simp] theorem takeIn_frame (x : Serial) (via : Via) (m : Message) :
    (takeIn x via m s).pending = s.pending ∧ (takeIn x via m s).now = s.now ∧ (takeIn x via m s).free = s.free ∧
    (takeIn x via m s).retained = s.retained ∧ (takeIn x via m s).port = s.port ∧ (takeIn x via m s).rx = s.rx ∧
    (takeIn x via m s).sounding = s.sounding ∧ (takeIn x via m s).head = s.head ∧
    (takeIn x via m s).journal = s.journal ∧ (takeIn x via m s).reply = s.reply ∧
    (takeIn x via m s).isolator = s.isolator ∧ (takeIn x via m s).supply = s.supply ∧
    (takeIn x via m s).settings = s.settings ∧ (takeIn x via m s).ir = s.ir ∧
    (takeIn x via m s).indicator = s.indicator := by
  unfold takeIn; (repeat' split) <;> simp

@[simp] theorem afterRemoval_frame (es : List Entry) :
    (afterRemoval es s).pending = s.pending ∧ (afterRemoval es s).now = s.now ∧ (afterRemoval es s).free = s.free ∧
    (afterRemoval es s).retained = s.retained ∧ (afterRemoval es s).port = s.port ∧ (afterRemoval es s).rx = s.rx ∧
    (afterRemoval es s).sounding = s.sounding ∧ (afterRemoval es s).head = s.head ∧
    (afterRemoval es s).journal = s.journal ∧ (afterRemoval es s).reply = s.reply ∧
    (afterRemoval es s).isolator = s.isolator ∧ (afterRemoval es s).supply = s.supply ∧
    (afterRemoval es s).settings = s.settings ∧ (afterRemoval es s).ir = s.ir ∧
    (afterRemoval es s).indicator = s.indicator := by
  simp [afterRemoval]

@[simp] theorem ageRoster_frame :
    (ageRoster s).pending = s.pending ∧ (ageRoster s).now = s.now ∧ (ageRoster s).free = s.free ∧
    (ageRoster s).retained = s.retained ∧ (ageRoster s).port = s.port ∧ (ageRoster s).rx = s.rx ∧
    (ageRoster s).sounding = s.sounding ∧ (ageRoster s).head = s.head ∧ (ageRoster s).journal = s.journal ∧
    (ageRoster s).reply = s.reply ∧ (ageRoster s).isolator = s.isolator ∧ (ageRoster s).supply = s.supply ∧
    (ageRoster s).settings = s.settings ∧ (ageRoster s).ir = s.ir ∧ (ageRoster s).indicator = s.indicator := by
  simp [ageRoster]

@[simp] theorem mergePeer_frame (x : Serial) (d f : Nat) :
    (mergePeer x d f s).pending = s.pending ∧ (mergePeer x d f s).now = s.now ∧ (mergePeer x d f s).free = s.free ∧
    (mergePeer x d f s).retained = s.retained ∧ (mergePeer x d f s).port = s.port ∧ (mergePeer x d f s).rx = s.rx ∧
    (mergePeer x d f s).sender = s.sender ∧ (mergePeer x d f s).sounding = s.sounding ∧
    (mergePeer x d f s).sched = s.sched ∧ (mergePeer x d f s).head = s.head ∧
    (mergePeer x d f s).journal = s.journal ∧ (mergePeer x d f s).reply = s.reply ∧
    (mergePeer x d f s).isolator = s.isolator ∧ (mergePeer x d f s).supply = s.supply ∧
    (mergePeer x d f s).settings = s.settings ∧ (mergePeer x d f s).ir = s.ir ∧
    (mergePeer x d f s).indicator = s.indicator := by
  unfold mergePeer; split <;> simp

/-! ### Journal and sounding unit (Journal, Sounding) -/

@[simp] theorem writeJournal_frame (e : JournalEntry) :
    (writeJournal e s).pending = s.pending ∧ (writeJournal e s).now = s.now ∧ (writeJournal e s).free = s.free ∧
    (writeJournal e s).retained = s.retained ∧ (writeJournal e s).port = s.port ∧ (writeJournal e s).rx = s.rx ∧
    (writeJournal e s).sender = s.sender ∧ (writeJournal e s).sounding = s.sounding ∧
    (writeJournal e s).roster = s.roster ∧ (writeJournal e s).sched = s.sched ∧ (writeJournal e s).head = s.head ∧
    (writeJournal e s).reply = s.reply ∧ (writeJournal e s).isolator = s.isolator ∧
    (writeJournal e s).supply = s.supply ∧ (writeJournal e s).settings = s.settings ∧ (writeJournal e s).ir = s.ir ∧
    (writeJournal e s).indicator = s.indicator := by
  unfold writeJournal; simp

@[simp] theorem observe_frame (o : Observation) :
    (observe o s).pending = s.pending ∧ (observe o s).now = s.now ∧ (observe o s).free = s.free ∧
    (observe o s).retained = s.retained ∧ (observe o s).port = s.port ∧ (observe o s).rx = s.rx ∧
    (observe o s).sender = s.sender ∧ (observe o s).roster = s.roster ∧ (observe o s).sched = s.sched ∧
    (observe o s).head = s.head ∧ (observe o s).journal = s.journal ∧ (observe o s).reply = s.reply ∧
    (observe o s).isolator = s.isolator ∧ (observe o s).supply = s.supply ∧ (observe o s).settings = s.settings ∧
    (observe o s).ir = s.ir ∧ (observe o s).indicator = s.indicator := by
  unfold observe; (repeat' split) <;> simp

@[simp] theorem dropObservation_frame :
    (dropObservation s).pending = s.pending ∧ (dropObservation s).now = s.now ∧ (dropObservation s).free = s.free ∧
    (dropObservation s).retained = s.retained ∧ (dropObservation s).port = s.port ∧ (dropObservation s).rx = s.rx ∧
    (dropObservation s).sender = s.sender ∧ (dropObservation s).roster = s.roster ∧
    (dropObservation s).sched = s.sched ∧ (dropObservation s).head = s.head ∧
    (dropObservation s).journal = s.journal ∧ (dropObservation s).reply = s.reply ∧
    (dropObservation s).isolator = s.isolator ∧ (dropObservation s).supply = s.supply ∧
    (dropObservation s).settings = s.settings ∧ (dropObservation s).ir = s.ir ∧
    (dropObservation s).indicator = s.indicator := by
  unfold dropObservation; simp

@[simp] theorem reject_frame (k : RejectionKind) :
    (reject k s).pending = s.pending ∧ (reject k s).now = s.now ∧ (reject k s).free = s.free ∧
    (reject k s).retained = s.retained ∧ (reject k s).port = s.port ∧ (reject k s).rx = s.rx ∧
    (reject k s).sender = s.sender ∧ (reject k s).roster = s.roster ∧ (reject k s).sched = s.sched ∧
    (reject k s).head = s.head ∧ (reject k s).journal = s.journal ∧ (reject k s).reply = s.reply ∧
    (reject k s).isolator = s.isolator ∧ (reject k s).supply = s.supply ∧ (reject k s).settings = s.settings ∧
    (reject k s).ir = s.ir ∧ (reject k s).indicator = s.indicator := by
  unfold reject; simp

@[simp] theorem writeSamples_frame (r : TailReadings) (o : Observation) :
    (writeSamples r o s).pending = s.pending ∧ (writeSamples r o s).now = s.now ∧ (writeSamples r o s).free = s.free ∧
    (writeSamples r o s).retained = s.retained ∧ (writeSamples r o s).port = s.port ∧ (writeSamples r o s).rx = s.rx ∧
    (writeSamples r o s).sender = s.sender ∧ (writeSamples r o s).roster = s.roster ∧
    (writeSamples r o s).sched = s.sched ∧ (writeSamples r o s).head = s.head ∧
    (writeSamples r o s).journal = s.journal ∧ (writeSamples r o s).reply = s.reply ∧
    (writeSamples r o s).isolator = s.isolator ∧ (writeSamples r o s).supply = s.supply ∧
    (writeSamples r o s).settings = s.settings ∧ (writeSamples r o s).ir = s.ir ∧
    (writeSamples r o s).indicator = s.indicator := by
  unfold writeSamples; simp

@[simp] theorem abandon_frame (r : TailReadings) :
    (abandon r s).pending = s.pending ∧ (abandon r s).now = s.now ∧ (abandon r s).free = s.free ∧
    (abandon r s).retained = s.retained ∧ (abandon r s).port = s.port ∧ (abandon r s).rx = s.rx ∧
    (abandon r s).sender = s.sender ∧ (abandon r s).roster = s.roster ∧ (abandon r s).sched = s.sched ∧
    (abandon r s).head = s.head ∧ (abandon r s).journal = s.journal ∧ (abandon r s).reply = s.reply ∧
    (abandon r s).isolator = s.isolator ∧ (abandon r s).supply = s.supply ∧ (abandon r s).settings = s.settings ∧
    (abandon r s).ir = s.ir ∧ (abandon r s).indicator = s.indicator := by
  unfold abandon; split <;> simp

@[simp] theorem truncate_frame (r : TailReadings) :
    (truncate r s).pending = s.pending ∧ (truncate r s).now = s.now ∧ (truncate r s).free = s.free ∧
    (truncate r s).retained = s.retained ∧ (truncate r s).port = s.port ∧ (truncate r s).rx = s.rx ∧
    (truncate r s).sender = s.sender ∧ (truncate r s).roster = s.roster ∧ (truncate r s).sched = s.sched ∧
    (truncate r s).head = s.head ∧ (truncate r s).journal = s.journal ∧ (truncate r s).reply = s.reply ∧
    (truncate r s).isolator = s.isolator ∧ (truncate r s).supply = s.supply ∧ (truncate r s).settings = s.settings ∧
    (truncate r s).ir = s.ir ∧ (truncate r s).indicator = s.indicator := by
  unfold truncate; (repeat' split) <;> simp

@[simp] theorem mergeOwn_frame (o : Orientation) (d f : Nat) :
    (mergeOwn o d f s).pending = s.pending ∧ (mergeOwn o d f s).now = s.now ∧ (mergeOwn o d f s).free = s.free ∧
    (mergeOwn o d f s).retained = s.retained ∧ (mergeOwn o d f s).port = s.port ∧ (mergeOwn o d f s).rx = s.rx ∧
    (mergeOwn o d f s).sender = s.sender ∧ (mergeOwn o d f s).sched = s.sched ∧ (mergeOwn o d f s).head = s.head ∧
    (mergeOwn o d f s).journal = s.journal ∧ (mergeOwn o d f s).reply = s.reply ∧
    (mergeOwn o d f s).isolator = s.isolator ∧ (mergeOwn o d f s).supply = s.supply ∧
    (mergeOwn o d f s).settings = s.settings ∧ (mergeOwn o d f s).ir = s.ir ∧
    (mergeOwn o d f s).indicator = s.indicator := by
  simp only [mergeOwn]; split <;> simp

@[simp] theorem mergeObservation_frame (o : Observation) (v i : List Int) :
    (mergeObservation o v i s).pending = s.pending ∧ (mergeObservation o v i s).now = s.now ∧
    (mergeObservation o v i s).free = s.free ∧ (mergeObservation o v i s).retained = s.retained ∧
    (mergeObservation o v i s).port = s.port ∧ (mergeObservation o v i s).rx = s.rx ∧
    (mergeObservation o v i s).sender = s.sender ∧ (mergeObservation o v i s).sched = s.sched ∧
    (mergeObservation o v i s).head = s.head ∧ (mergeObservation o v i s).journal = s.journal ∧
    (mergeObservation o v i s).reply = s.reply ∧ (mergeObservation o v i s).isolator = s.isolator ∧
    (mergeObservation o v i s).supply = s.supply ∧ (mergeObservation o v i s).settings = s.settings ∧
    (mergeObservation o v i s).ir = s.ir ∧ (mergeObservation o v i s).indicator = s.indicator := by
  unfold mergeObservation; (repeat' split) <;> simp

@[simp] theorem decideObservation_frame (r : TailReadings) :
    (decideObservation r s).pending = s.pending ∧ (decideObservation r s).now = s.now ∧
    (decideObservation r s).free = s.free ∧ (decideObservation r s).retained = s.retained ∧
    (decideObservation r s).port = s.port ∧ (decideObservation r s).rx = s.rx ∧
    (decideObservation r s).sender = s.sender ∧ (decideObservation r s).sched = s.sched ∧
    (decideObservation r s).head = s.head ∧ (decideObservation r s).journal = s.journal ∧
    (decideObservation r s).reply = s.reply ∧ (decideObservation r s).isolator = s.isolator ∧
    (decideObservation r s).supply = s.supply ∧ (decideObservation r s).settings = s.settings ∧
    (decideObservation r s).ir = s.ir ∧ (decideObservation r s).indicator = s.indicator := by
  simp only [decideObservation]; (repeat' split) <;> simp

@[simp] theorem dropOwnMerge_frame (o : Orientation) :
    (dropOwnMerge o s).pending = s.pending ∧ (dropOwnMerge o s).now = s.now ∧ (dropOwnMerge o s).free = s.free ∧
    (dropOwnMerge o s).retained = s.retained ∧ (dropOwnMerge o s).port = s.port ∧ (dropOwnMerge o s).rx = s.rx ∧
    (dropOwnMerge o s).sender = s.sender ∧ (dropOwnMerge o s).roster = s.roster ∧
    (dropOwnMerge o s).sched = s.sched ∧ (dropOwnMerge o s).head = s.head ∧
    (dropOwnMerge o s).journal = s.journal ∧ (dropOwnMerge o s).reply = s.reply ∧
    (dropOwnMerge o s).isolator = s.isolator ∧ (dropOwnMerge o s).supply = s.supply ∧
    (dropOwnMerge o s).settings = s.settings ∧ (dropOwnMerge o s).ir = s.ir ∧
    (dropOwnMerge o s).indicator = s.indicator := by
  unfold dropOwnMerge; (repeat' split) <;> simp

@[simp] theorem clearFigures_frame :
    (clearFigures s).pending = s.pending ∧ (clearFigures s).now = s.now ∧ (clearFigures s).free = s.free ∧
    (clearFigures s).retained = s.retained ∧ (clearFigures s).port = s.port ∧ (clearFigures s).rx = s.rx ∧
    (clearFigures s).sender = s.sender ∧ (clearFigures s).sched = s.sched ∧ (clearFigures s).head = s.head ∧
    (clearFigures s).journal = s.journal ∧ (clearFigures s).reply = s.reply ∧
    (clearFigures s).isolator = s.isolator ∧ (clearFigures s).supply = s.supply ∧
    (clearFigures s).settings = s.settings ∧ (clearFigures s).ir = s.ir ∧
    (clearFigures s).indicator = s.indicator := by
  simp [clearFigures]

@[simp] theorem changeOrientation_frame (o : Orientation) :
    (changeOrientation o s).pending = s.pending ∧ (changeOrientation o s).now = s.now ∧
    (changeOrientation o s).free = s.free ∧ (changeOrientation o s).retained = s.retained ∧
    (changeOrientation o s).rx = s.rx ∧ (changeOrientation o s).sender = s.sender ∧
    (changeOrientation o s).sched = s.sched ∧ (changeOrientation o s).head = s.head ∧
    (changeOrientation o s).journal = s.journal ∧ (changeOrientation o s).reply = s.reply ∧
    (changeOrientation o s).isolator = s.isolator ∧ (changeOrientation o s).supply = s.supply ∧
    (changeOrientation o s).settings = s.settings ∧ (changeOrientation o s).ir = s.ir ∧
    (changeOrientation o s).indicator = s.indicator := by
  simp only [changeOrientation]; split <;> simp

@[simp] theorem noteReading_frame :
    (noteReading s).pending = s.pending ∧ (noteReading s).now = s.now ∧ (noteReading s).free = s.free ∧
    (noteReading s).retained = s.retained ∧ (noteReading s).rx = s.rx ∧ (noteReading s).sender = s.sender ∧
    (noteReading s).sounding = s.sounding ∧ (noteReading s).roster = s.roster ∧ (noteReading s).sched = s.sched ∧
    (noteReading s).head = s.head ∧ (noteReading s).journal = s.journal ∧ (noteReading s).reply = s.reply ∧
    (noteReading s).isolator = s.isolator ∧ (noteReading s).supply = s.supply ∧
    (noteReading s).settings = s.settings ∧ (noteReading s).ir = s.ir ∧ (noteReading s).indicator = s.indicator := by
  unfold noteReading; simp

@[simp] theorem actOnReading_frame (v : Orientation) :
    (actOnReading v s).pending = s.pending ∧ (actOnReading v s).now = s.now ∧ (actOnReading v s).free = s.free ∧
    (actOnReading v s).retained = s.retained ∧ (actOnReading v s).rx = s.rx ∧ (actOnReading v s).sender = s.sender ∧
    (actOnReading v s).sched = s.sched ∧ (actOnReading v s).head = s.head ∧ (actOnReading v s).journal = s.journal ∧
    (actOnReading v s).reply = s.reply ∧ (actOnReading v s).isolator = s.isolator ∧
    (actOnReading v s).supply = s.supply ∧ (actOnReading v s).settings = s.settings ∧ (actOnReading v s).ir = s.ir ∧
    (actOnReading v s).indicator = s.indicator := by
  unfold actOnReading; (repeat' split) <;> simp

@[simp] theorem takeReading_frame (r : Int) :
    (takeReading r s).pending = s.pending ∧ (takeReading r s).now = s.now ∧ (takeReading r s).free = s.free ∧
    (takeReading r s).retained = s.retained ∧ (takeReading r s).rx = s.rx ∧ (takeReading r s).sender = s.sender ∧
    (takeReading r s).sched = s.sched ∧ (takeReading r s).head = s.head ∧ (takeReading r s).journal = s.journal ∧
    (takeReading r s).reply = s.reply ∧ (takeReading r s).isolator = s.isolator ∧
    (takeReading r s).supply = s.supply ∧ (takeReading r s).settings = s.settings ∧ (takeReading r s).ir = s.ir ∧
    (takeReading r s).indicator = s.indicator := by
  unfold takeReading; split <;> simp

/-! ### Reception (Delivery) -/

@[simp] theorem takeQuery_frame (x : Serial) (item : Nat) (index : Option Nat) :
    (takeQuery x item index s).pending = s.pending ∧ (takeQuery x item index s).now = s.now ∧
    (takeQuery x item index s).free = s.free ∧ (takeQuery x item index s).retained = s.retained ∧
    (takeQuery x item index s).port = s.port ∧ (takeQuery x item index s).rx = s.rx ∧
    (takeQuery x item index s).sounding = s.sounding ∧ (takeQuery x item index s).roster = s.roster ∧
    (takeQuery x item index s).sched = s.sched ∧ (takeQuery x item index s).head = s.head ∧
    (takeQuery x item index s).journal = s.journal ∧ (takeQuery x item index s).isolator = s.isolator ∧
    (takeQuery x item index s).supply = s.supply ∧ (takeQuery x item index s).settings = s.settings ∧
    (takeQuery x item index s).ir = s.ir := by
  simp only [takeQuery]; split <;> simp

@[simp] theorem deliverQuery_frame (x : Serial) (sel : Selector) (item : Nat) (index : Option Nat) :
    (deliverQuery x sel item index s).pending = s.pending ∧ (deliverQuery x sel item index s).now = s.now ∧
    (deliverQuery x sel item index s).free = s.free ∧ (deliverQuery x sel item index s).retained = s.retained ∧
    (deliverQuery x sel item index s).port = s.port ∧ (deliverQuery x sel item index s).rx = s.rx ∧
    (deliverQuery x sel item index s).sounding = s.sounding ∧ (deliverQuery x sel item index s).roster = s.roster ∧
    (deliverQuery x sel item index s).head = s.head ∧ (deliverQuery x sel item index s).journal = s.journal ∧
    (deliverQuery x sel item index s).isolator = s.isolator ∧ (deliverQuery x sel item index s).supply = s.supply ∧
    (deliverQuery x sel item index s).settings = s.settings ∧ (deliverQuery x sel item index s).ir = s.ir := by
  unfold deliverQuery; (repeat' split) <;> simp

@[simp] theorem hearTail_frame (x : Serial) (p : PresenceIn) :
    (hearTail x p s).pending = s.pending ∧ (hearTail x p s).now = s.now ∧ (hearTail x p s).free = s.free ∧
    (hearTail x p s).retained = s.retained ∧ (hearTail x p s).port = s.port ∧ (hearTail x p s).rx = s.rx ∧
    (hearTail x p s).sender = s.sender ∧ (hearTail x p s).roster = s.roster ∧ (hearTail x p s).sched = s.sched ∧
    (hearTail x p s).head = s.head ∧ (hearTail x p s).journal = s.journal ∧ (hearTail x p s).reply = s.reply ∧
    (hearTail x p s).isolator = s.isolator ∧ (hearTail x p s).supply = s.supply ∧
    (hearTail x p s).settings = s.settings ∧ (hearTail x p s).ir = s.ir ∧
    (hearTail x p s).indicator = s.indicator := by
  unfold hearTail; (repeat' split) <;> simp

@[simp] theorem deliver_frame (x : Serial) (via : Via) (m : Message) :
    (deliver x via m s).pending = s.pending ∧ (deliver x via m s).now = s.now ∧ (deliver x via m s).free = s.free ∧
    (deliver x via m s).retained = s.retained ∧ (deliver x via m s).port = s.port ∧ (deliver x via m s).rx = s.rx ∧
    (deliver x via m s).head = s.head ∧ (deliver x via m s).isolator = s.isolator ∧
    (deliver x via m s).supply = s.supply ∧ (deliver x via m s).settings = s.settings ∧
    (deliver x via m s).ir = s.ir := by
  unfold deliver; (repeat' split) <;> simp

@[simp] theorem countGood_frame (d : Bool) :
    (countGood d s).pending = s.pending ∧ (countGood d s).now = s.now ∧ (countGood d s).free = s.free ∧
    (countGood d s).retained = s.retained ∧ (countGood d s).port = s.port ∧ (countGood d s).sender = s.sender ∧
    (countGood d s).sounding = s.sounding ∧ (countGood d s).roster = s.roster ∧ (countGood d s).sched = s.sched ∧
    (countGood d s).head = s.head ∧ (countGood d s).journal = s.journal ∧ (countGood d s).reply = s.reply ∧
    (countGood d s).isolator = s.isolator ∧ (countGood d s).supply = s.supply ∧
    (countGood d s).settings = s.settings ∧ (countGood d s).ir = s.ir ∧ (countGood d s).indicator = s.indicator := by
  unfold countGood; (repeat' split) <;> simp

@[simp] theorem countDamaged_frame (k : DamageKind) :
    (countDamaged k s).pending = s.pending ∧ (countDamaged k s).now = s.now ∧ (countDamaged k s).free = s.free ∧
    (countDamaged k s).retained = s.retained ∧ (countDamaged k s).port = s.port ∧
    (countDamaged k s).sender = s.sender ∧ (countDamaged k s).sounding = s.sounding ∧
    (countDamaged k s).roster = s.roster ∧ (countDamaged k s).sched = s.sched ∧ (countDamaged k s).head = s.head ∧
    (countDamaged k s).journal = s.journal ∧ (countDamaged k s).reply = s.reply ∧
    (countDamaged k s).isolator = s.isolator ∧ (countDamaged k s).supply = s.supply ∧
    (countDamaged k s).settings = s.settings ∧ (countDamaged k s).ir = s.ir ∧
    (countDamaged k s).indicator = s.indicator := by
  unfold countDamaged; simp

@[simp] theorem countForeign_frame :
    (countForeign s).pending = s.pending ∧ (countForeign s).now = s.now ∧ (countForeign s).free = s.free ∧
    (countForeign s).retained = s.retained ∧ (countForeign s).port = s.port ∧ (countForeign s).sender = s.sender ∧
    (countForeign s).sounding = s.sounding ∧ (countForeign s).roster = s.roster ∧ (countForeign s).sched = s.sched ∧
    (countForeign s).head = s.head ∧ (countForeign s).journal = s.journal ∧ (countForeign s).reply = s.reply ∧
    (countForeign s).isolator = s.isolator ∧ (countForeign s).supply = s.supply ∧
    (countForeign s).settings = s.settings ∧ (countForeign s).ir = s.ir ∧
    (countForeign s).indicator = s.indicator := by
  unfold countForeign; simp

@[simp] theorem dropEnded_frame :
    (dropEnded s).pending = s.pending ∧ (dropEnded s).now = s.now ∧ (dropEnded s).free = s.free ∧
    (dropEnded s).retained = s.retained ∧ (dropEnded s).port = s.port ∧ (dropEnded s).sender = s.sender ∧
    (dropEnded s).sounding = s.sounding ∧ (dropEnded s).roster = s.roster ∧ (dropEnded s).sched = s.sched ∧
    (dropEnded s).head = s.head ∧ (dropEnded s).journal = s.journal ∧ (dropEnded s).reply = s.reply ∧
    (dropEnded s).isolator = s.isolator ∧ (dropEnded s).supply = s.supply ∧ (dropEnded s).settings = s.settings ∧
    (dropEnded s).ir = s.ir ∧ (dropEnded s).indicator = s.indicator := by
  unfold dropEnded; simp

@[simp] theorem dropTailFrame_frame (f : RxFrame) (h : Heard) :
    (dropTailFrame f h s).pending = s.pending ∧ (dropTailFrame f h s).now = s.now ∧
    (dropTailFrame f h s).free = s.free ∧ (dropTailFrame f h s).retained = s.retained ∧
    (dropTailFrame f h s).port = s.port ∧ (dropTailFrame f h s).sender = s.sender ∧
    (dropTailFrame f h s).sounding = s.sounding ∧ (dropTailFrame f h s).roster = s.roster ∧
    (dropTailFrame f h s).sched = s.sched ∧ (dropTailFrame f h s).head = s.head ∧
    (dropTailFrame f h s).journal = s.journal ∧ (dropTailFrame f h s).reply = s.reply ∧
    (dropTailFrame f h s).isolator = s.isolator ∧ (dropTailFrame f h s).supply = s.supply ∧
    (dropTailFrame f h s).settings = s.settings ∧ (dropTailFrame f h s).ir = s.ir ∧
    (dropTailFrame f h s).indicator = s.indicator := by
  unfold dropTailFrame; simp

@[simp] theorem takeReception_frame (r : Reception) :
    (takeReception r s).pending = s.pending ∧ (takeReception r s).now = s.now ∧ (takeReception r s).free = s.free ∧
    (takeReception r s).retained = s.retained ∧ (takeReception r s).port = s.port ∧
    (takeReception r s).head = s.head ∧ (takeReception r s).isolator = s.isolator ∧
    (takeReception r s).supply = s.supply ∧ (takeReception r s).settings = s.settings ∧
    (takeReception r s).ir = s.ir := by
  unfold takeReception; (repeat' split) <;> simp

@[simp] theorem takeIf_dropEnded_frame (wanted : Reception → Bool) (r : Reception) :
    (takeIf wanted r dropEnded s).pending = s.pending ∧ (takeIf wanted r dropEnded s).now = s.now ∧
    (takeIf wanted r dropEnded s).free = s.free ∧ (takeIf wanted r dropEnded s).retained = s.retained ∧
    (takeIf wanted r dropEnded s).port = s.port ∧ (takeIf wanted r dropEnded s).head = s.head ∧
    (takeIf wanted r dropEnded s).isolator = s.isolator ∧ (takeIf wanted r dropEnded s).supply = s.supply ∧
    (takeIf wanted r dropEnded s).settings = s.settings ∧ (takeIf wanted r dropEnded s).ir = s.ir := by
  unfold takeIf; split <;> simp

@[simp] theorem takeIf_dropTailFrame_frame (wanted : Reception → Bool) (r : Reception) (f : RxFrame) (h : Heard) :
    (takeIf wanted r (dropTailFrame f h) s).pending = s.pending ∧
    (takeIf wanted r (dropTailFrame f h) s).now = s.now ∧ (takeIf wanted r (dropTailFrame f h) s).free = s.free ∧
    (takeIf wanted r (dropTailFrame f h) s).retained = s.retained ∧
    (takeIf wanted r (dropTailFrame f h) s).port = s.port ∧ (takeIf wanted r (dropTailFrame f h) s).head = s.head ∧
    (takeIf wanted r (dropTailFrame f h) s).isolator = s.isolator ∧
    (takeIf wanted r (dropTailFrame f h) s).supply = s.supply ∧
    (takeIf wanted r (dropTailFrame f h) s).settings = s.settings ∧
    (takeIf wanted r (dropTailFrame f h) s).ir = s.ir := by
  unfold takeIf; split <;> simp

@[simp] theorem receiveIf_frame (wanted : Reception → Bool) (h : Heard) :
    (receiveIf wanted h s).pending = s.pending ∧ (receiveIf wanted h s).now = s.now ∧
    (receiveIf wanted h s).free = s.free ∧ (receiveIf wanted h s).retained = s.retained ∧
    (receiveIf wanted h s).port = s.port ∧ (receiveIf wanted h s).head = s.head ∧
    (receiveIf wanted h s).isolator = s.isolator ∧ (receiveIf wanted h s).supply = s.supply ∧
    (receiveIf wanted h s).settings = s.settings ∧ (receiveIf wanted h s).ir = s.ir := by
  unfold receiveIf; (repeat' split) <;> simp

/-! ### The line (Capture, Line) -/

@[simp] theorem beginFrame_frame :
    (beginFrame s).pending = s.pending ∧ (beginFrame s).now = s.now ∧ (beginFrame s).free = s.free ∧
    (beginFrame s).retained = s.retained ∧ (beginFrame s).port = s.port ∧ (beginFrame s).sender = s.sender ∧
    (beginFrame s).sounding = s.sounding ∧ (beginFrame s).roster = s.roster ∧ (beginFrame s).sched = s.sched ∧
    (beginFrame s).head = s.head ∧ (beginFrame s).journal = s.journal ∧ (beginFrame s).reply = s.reply ∧
    (beginFrame s).isolator = s.isolator ∧ (beginFrame s).supply = s.supply ∧ (beginFrame s).settings = s.settings ∧
    (beginFrame s).ir = s.ir ∧ (beginFrame s).indicator = s.indicator := by
  unfold beginFrame; simp

@[simp] theorem beforeCapture_frame (k : OutKind) :
    (beforeCapture k s).pending = s.pending ∧ (beforeCapture k s).now = s.now ∧ (beforeCapture k s).free = s.free ∧
    (beforeCapture k s).retained = s.retained ∧ (beforeCapture k s).port = s.port ∧ (beforeCapture k s).rx = s.rx ∧
    (beforeCapture k s).sender = s.sender ∧ (beforeCapture k s).sounding = s.sounding ∧
    (beforeCapture k s).roster = s.roster ∧ (beforeCapture k s).head = s.head ∧
    (beforeCapture k s).journal = s.journal ∧ (beforeCapture k s).reply = s.reply ∧
    (beforeCapture k s).isolator = s.isolator ∧ (beforeCapture k s).supply = s.supply ∧
    (beforeCapture k s).settings = s.settings ∧ (beforeCapture k s).ir = s.ir ∧
    (beforeCapture k s).indicator = s.indicator := by
  unfold beforeCapture; (repeat' split) <;> simp

@[simp] theorem beginMessage_frame (k : OutKind) :
    (beginMessage k s).pending = s.pending ∧ (beginMessage k s).now = s.now ∧ (beginMessage k s).free = s.free ∧
    (beginMessage k s).retained = s.retained ∧ (beginMessage k s).port = s.port ∧
    (beginMessage k s).sounding = s.sounding ∧ (beginMessage k s).roster = s.roster ∧
    (beginMessage k s).head = s.head ∧ (beginMessage k s).journal = s.journal ∧ (beginMessage k s).reply = s.reply ∧
    (beginMessage k s).isolator = s.isolator ∧ (beginMessage k s).supply = s.supply ∧
    (beginMessage k s).settings = s.settings ∧ (beginMessage k s).ir = s.ir ∧
    (beginMessage k s).indicator = s.indicator := by
  simp only [beginMessage]; split <;> simp

@[simp] theorem contend_frame :
    (contend s).pending = s.pending ∧ (contend s).now = s.now ∧ (contend s).free = s.free ∧
    (contend s).retained = s.retained ∧ (contend s).port = s.port ∧ (contend s).sounding = s.sounding ∧
    (contend s).roster = s.roster ∧ (contend s).head = s.head ∧ (contend s).journal = s.journal ∧
    (contend s).reply = s.reply ∧ (contend s).isolator = s.isolator ∧ (contend s).supply = s.supply ∧
    (contend s).settings = s.settings ∧ (contend s).ir = s.ir ∧ (contend s).indicator = s.indicator := by
  unfold contend; (repeat' split) <;> simp

@[simp] theorem judgeIdle_frame :
    (judgeIdle s).pending = s.pending ∧ (judgeIdle s).now = s.now ∧ (judgeIdle s).free = s.free ∧
    (judgeIdle s).retained = s.retained ∧ (judgeIdle s).port = s.port ∧ (judgeIdle s).sender = s.sender ∧
    (judgeIdle s).sounding = s.sounding ∧ (judgeIdle s).roster = s.roster ∧ (judgeIdle s).sched = s.sched ∧
    (judgeIdle s).head = s.head ∧ (judgeIdle s).journal = s.journal ∧ (judgeIdle s).reply = s.reply ∧
    (judgeIdle s).isolator = s.isolator ∧ (judgeIdle s).supply = s.supply ∧ (judgeIdle s).settings = s.settings ∧
    (judgeIdle s).ir = s.ir ∧ (judgeIdle s).indicator = s.indicator := by
  unfold judgeIdle; simp

@[simp] theorem decideAtIdle_frame (h : Option Heard) :
    (decideAtIdle h s).pending = s.pending ∧ (decideAtIdle h s).now = s.now ∧ (decideAtIdle h s).free = s.free ∧
    (decideAtIdle h s).retained = s.retained ∧ (decideAtIdle h s).port = s.port ∧ (decideAtIdle h s).head = s.head ∧
    (decideAtIdle h s).isolator = s.isolator ∧ (decideAtIdle h s).supply = s.supply ∧
    (decideAtIdle h s).settings = s.settings ∧ (decideAtIdle h s).ir = s.ir := by
  unfold decideAtIdle; (repeat' split) <;> simp

@[simp] theorem lineBecomesIdle_frame (h : IdleHearing) :
    (lineBecomesIdle h s).pending = s.pending ∧ (lineBecomesIdle h s).now = s.now ∧
    (lineBecomesIdle h s).free = s.free ∧ (lineBecomesIdle h s).retained = s.retained ∧
    (lineBecomesIdle h s).port = s.port ∧ (lineBecomesIdle h s).head = s.head ∧
    (lineBecomesIdle h s).isolator = s.isolator ∧ (lineBecomesIdle h s).supply = s.supply ∧
    (lineBecomesIdle h s).settings = s.settings ∧ (lineBecomesIdle h s).ir = s.ir := by
  unfold lineBecomesIdle; (repeat' split) <;> simp

@[simp] theorem noteSink_frame (m : Nat) :
    (noteSink m s).pending = s.pending ∧ (noteSink m s).now = s.now ∧ (noteSink m s).free = s.free ∧
    (noteSink m s).retained = s.retained ∧ (noteSink m s).port = s.port ∧ (noteSink m s).sender = s.sender ∧
    (noteSink m s).sounding = s.sounding ∧ (noteSink m s).roster = s.roster ∧ (noteSink m s).sched = s.sched ∧
    (noteSink m s).head = s.head ∧ (noteSink m s).journal = s.journal ∧ (noteSink m s).reply = s.reply ∧
    (noteSink m s).isolator = s.isolator ∧ (noteSink m s).supply = s.supply ∧ (noteSink m s).settings = s.settings ∧
    (noteSink m s).ir = s.ir ∧ (noteSink m s).indicator = s.indicator := by
  unfold noteSink; simp

@[simp] theorem leaveLine_frame (x : SenderState) :
    (leaveLine x s).pending = s.pending ∧ (leaveLine x s).now = s.now ∧ (leaveLine x s).free = s.free ∧
    (leaveLine x s).retained = s.retained ∧ (leaveLine x s).port = s.port ∧ (leaveLine x s).rx = s.rx ∧
    (leaveLine x s).sounding = s.sounding ∧ (leaveLine x s).roster = s.roster ∧ (leaveLine x s).sched = s.sched ∧
    (leaveLine x s).head = s.head ∧ (leaveLine x s).journal = s.journal ∧ (leaveLine x s).reply = s.reply ∧
    (leaveLine x s).isolator = s.isolator ∧ (leaveLine x s).supply = s.supply ∧
    (leaveLine x s).settings = s.settings ∧ (leaveLine x s).ir = s.ir ∧ (leaveLine x s).indicator = s.indicator := by
  unfold leaveLine; simp

@[simp] theorem dropOwnFrame_frame :
    (dropOwnFrame s).pending = s.pending ∧ (dropOwnFrame s).now = s.now ∧ (dropOwnFrame s).free = s.free ∧
    (dropOwnFrame s).retained = s.retained ∧ (dropOwnFrame s).port = s.port ∧ (dropOwnFrame s).sender = s.sender ∧
    (dropOwnFrame s).sounding = s.sounding ∧ (dropOwnFrame s).roster = s.roster ∧ (dropOwnFrame s).sched = s.sched ∧
    (dropOwnFrame s).head = s.head ∧ (dropOwnFrame s).journal = s.journal ∧ (dropOwnFrame s).reply = s.reply ∧
    (dropOwnFrame s).isolator = s.isolator ∧ (dropOwnFrame s).supply = s.supply ∧
    (dropOwnFrame s).settings = s.settings ∧ (dropOwnFrame s).ir = s.ir ∧
    (dropOwnFrame s).indicator = s.indicator := by
  unfold dropOwnFrame; simp

@[simp] theorem abortMessage_frame (k : OutKind) :
    (abortMessage k s).pending = s.pending ∧ (abortMessage k s).now = s.now ∧ (abortMessage k s).free = s.free ∧
    (abortMessage k s).retained = s.retained ∧ (abortMessage k s).port = s.port ∧
    (abortMessage k s).sounding = s.sounding ∧ (abortMessage k s).roster = s.roster ∧
    (abortMessage k s).head = s.head ∧ (abortMessage k s).journal = s.journal ∧
    (abortMessage k s).isolator = s.isolator ∧ (abortMessage k s).supply = s.supply ∧
    (abortMessage k s).settings = s.settings ∧ (abortMessage k s).ir = s.ir ∧
    (abortMessage k s).indicator = s.indicator := by
  simp only [abortMessage]; split <;> simp

@[simp] theorem returnLine_frame :
    (returnLine s).pending = s.pending ∧ (returnLine s).now = s.now ∧ (returnLine s).free = s.free ∧
    (returnLine s).retained = s.retained ∧ (returnLine s).port = s.port ∧ (returnLine s).sounding = s.sounding ∧
    (returnLine s).roster = s.roster ∧ (returnLine s).sched = s.sched ∧ (returnLine s).head = s.head ∧
    (returnLine s).journal = s.journal ∧ (returnLine s).reply = s.reply ∧ (returnLine s).isolator = s.isolator ∧
    (returnLine s).supply = s.supply ∧ (returnLine s).settings = s.settings ∧ (returnLine s).ir = s.ir ∧
    (returnLine s).indicator = s.indicator := by
  unfold returnLine; split <;> simp

@[simp] theorem endTail_frame (r : TailReadings) :
    (endTail r s).pending = s.pending ∧ (endTail r s).now = s.now ∧ (endTail r s).free = s.free ∧
    (endTail r s).retained = s.retained ∧ (endTail r s).port = s.port ∧ (endTail r s).sched = s.sched ∧
    (endTail r s).head = s.head ∧ (endTail r s).journal = s.journal ∧ (endTail r s).reply = s.reply ∧
    (endTail r s).isolator = s.isolator ∧ (endTail r s).supply = s.supply ∧ (endTail r s).settings = s.settings ∧
    (endTail r s).ir = s.ir ∧ (endTail r s).indicator = s.indicator := by
  simp only [endTail]; (repeat' split) <;> simp

@[simp] theorem beginOwnTail_frame :
    (beginOwnTail s).pending = s.pending ∧ (beginOwnTail s).now = s.now ∧ (beginOwnTail s).free = s.free ∧
    (beginOwnTail s).retained = s.retained ∧ (beginOwnTail s).port = s.port ∧
    (beginOwnTail s).rx = { s.rx with idleInTail := false } ∧
    (beginOwnTail s).roster = s.roster ∧ (beginOwnTail s).sched = s.sched ∧ (beginOwnTail s).head = s.head ∧
    (beginOwnTail s).journal = s.journal ∧ (beginOwnTail s).reply = s.reply ∧
    (beginOwnTail s).isolator = s.isolator ∧ (beginOwnTail s).supply = s.supply ∧
    (beginOwnTail s).settings = s.settings ∧ (beginOwnTail s).ir = s.ir ∧
    (beginOwnTail s).indicator = s.indicator := by
  simp [beginOwnTail]

@[simp] theorem tellDiscarded_frame (k : OutKind) (x : LineSender) :
    (tellDiscarded k x s).pending = s.pending ∧ (tellDiscarded k x s).now = s.now ∧
    (tellDiscarded k x s).free = s.free ∧ (tellDiscarded k x s).retained = s.retained ∧
    (tellDiscarded k x s).port = s.port ∧ (tellDiscarded k x s).rx = s.rx ∧ (tellDiscarded k x s).sender = s.sender ∧
    (tellDiscarded k x s).sounding = s.sounding ∧ (tellDiscarded k x s).roster = s.roster ∧
    (tellDiscarded k x s).head = s.head ∧ (tellDiscarded k x s).journal = s.journal ∧
    (tellDiscarded k x s).isolator = s.isolator ∧ (tellDiscarded k x s).supply = s.supply ∧
    (tellDiscarded k x s).settings = s.settings ∧ (tellDiscarded k x s).ir = s.ir ∧
    (tellDiscarded k x s).indicator = s.indicator := by
  unfold tellDiscarded; (repeat' split) <;> simp

@[simp] theorem clearMarks_frame :
    (clearMarks s).pending = s.pending ∧ (clearMarks s).now = s.now ∧ (clearMarks s).free = s.free ∧
    (clearMarks s).retained = s.retained ∧ (clearMarks s).port = s.port ∧ (clearMarks s).rx = s.rx ∧
    (clearMarks s).sender = s.sender ∧ (clearMarks s).sounding = s.sounding ∧ (clearMarks s).roster = s.roster ∧
    (clearMarks s).head = s.head ∧ (clearMarks s).journal = s.journal ∧ (clearMarks s).reply = s.reply ∧
    (clearMarks s).isolator = s.isolator ∧ (clearMarks s).supply = s.supply ∧ (clearMarks s).settings = s.settings ∧
    (clearMarks s).ir = s.ir ∧ (clearMarks s).indicator = s.indicator := by
  unfold clearMarks; simp

@[simp] theorem lockSink_frame :
    (lockSink s).pending = s.pending ∧ (lockSink s).now = s.now ∧ (lockSink s).free = s.free ∧
    (lockSink s).sounding = s.sounding ∧ (lockSink s).roster = s.roster ∧ (lockSink s).head = s.head ∧
    (lockSink s).journal = s.journal ∧ (lockSink s).isolator = s.isolator ∧ (lockSink s).supply = s.supply ∧
    (lockSink s).settings = s.settings ∧ (lockSink s).ir = s.ir ∧ (lockSink s).indicator = s.indicator := by
  simp only [lockSink]; split <;> simp

/-! ### The head supervisor (Head) -/

@[simp] theorem fitHead_frame (x : HeadType) :
    (fitHead x s).pending = s.pending ∧ (fitHead x s).now = s.now ∧ (fitHead x s).free = s.free ∧
    (fitHead x s).retained = s.retained ∧ (fitHead x s).port = s.port ∧ (fitHead x s).rx = s.rx ∧
    (fitHead x s).sender = s.sender ∧ (fitHead x s).sounding = s.sounding ∧ (fitHead x s).roster = s.roster ∧
    (fitHead x s).sched = s.sched ∧ (fitHead x s).journal = s.journal ∧ (fitHead x s).reply = s.reply ∧
    (fitHead x s).isolator = s.isolator ∧ (fitHead x s).supply = s.supply ∧ (fitHead x s).settings = s.settings ∧
    (fitHead x s).ir = s.ir ∧ (fitHead x s).indicator = s.indicator := by
  unfold fitHead; simp

@[simp] theorem loseHead_frame (x : HeadState) :
    (loseHead x s).pending = s.pending ∧ (loseHead x s).now = s.now ∧ (loseHead x s).free = s.free ∧
    (loseHead x s).retained = s.retained ∧ (loseHead x s).port = s.port ∧ (loseHead x s).rx = s.rx ∧
    (loseHead x s).sender = s.sender ∧ (loseHead x s).sounding = s.sounding ∧ (loseHead x s).roster = s.roster ∧
    (loseHead x s).sched = s.sched ∧ (loseHead x s).journal = s.journal ∧ (loseHead x s).reply = s.reply ∧
    (loseHead x s).isolator = s.isolator ∧ (loseHead x s).supply = s.supply ∧ (loseHead x s).settings = s.settings ∧
    (loseHead x s).ir = s.ir ∧ (loseHead x s).indicator = s.indicator := by
  unfold loseHead; simp

@[simp] theorem changeIdentity_frame (x : Identity) :
    (changeIdentity x s).pending = s.pending ∧ (changeIdentity x s).now = s.now ∧
    (changeIdentity x s).free = s.free ∧ (changeIdentity x s).retained = s.retained ∧
    (changeIdentity x s).port = s.port ∧ (changeIdentity x s).rx = s.rx ∧ (changeIdentity x s).sender = s.sender ∧
    (changeIdentity x s).sounding = s.sounding ∧ (changeIdentity x s).roster = s.roster ∧
    (changeIdentity x s).sched = s.sched ∧ (changeIdentity x s).journal = s.journal ∧
    (changeIdentity x s).reply = s.reply ∧ (changeIdentity x s).isolator = s.isolator ∧
    (changeIdentity x s).supply = s.supply ∧ (changeIdentity x s).settings = s.settings ∧
    (changeIdentity x s).ir = s.ir ∧ (changeIdentity x s).indicator = s.indicator := by
  cases x <;> simp [changeIdentity]

@[simp] theorem readIdentity_frame (c : Nat) :
    (readIdentity c s).pending = s.pending ∧ (readIdentity c s).now = s.now ∧ (readIdentity c s).free = s.free ∧
    (readIdentity c s).retained = s.retained ∧ (readIdentity c s).port = s.port ∧ (readIdentity c s).rx = s.rx ∧
    (readIdentity c s).sender = s.sender ∧ (readIdentity c s).sounding = s.sounding ∧
    (readIdentity c s).roster = s.roster ∧ (readIdentity c s).sched = s.sched ∧
    (readIdentity c s).journal = s.journal ∧ (readIdentity c s).reply = s.reply ∧
    (readIdentity c s).isolator = s.isolator ∧ (readIdentity c s).supply = s.supply ∧
    (readIdentity c s).settings = s.settings ∧ (readIdentity c s).ir = s.ir ∧
    (readIdentity c s).indicator = s.indicator := by
  simp only [readIdentity]; split <;> simp

@[simp] theorem beginConfirm_frame :
    (beginConfirm s).pending = s.pending ∧ (beginConfirm s).now = s.now ∧ (beginConfirm s).free = s.free ∧
    (beginConfirm s).retained = s.retained ∧ (beginConfirm s).port = s.port ∧ (beginConfirm s).rx = s.rx ∧
    (beginConfirm s).sender = s.sender ∧ (beginConfirm s).sounding = s.sounding ∧
    (beginConfirm s).roster = s.roster ∧ (beginConfirm s).sched = s.sched ∧ (beginConfirm s).journal = s.journal ∧
    (beginConfirm s).reply = s.reply ∧ (beginConfirm s).isolator = s.isolator ∧ (beginConfirm s).supply = s.supply ∧
    (beginConfirm s).settings = s.settings ∧ (beginConfirm s).ir = s.ir ∧
    (beginConfirm s).indicator = s.indicator := by
  unfold beginConfirm; simp

@[simp] theorem enterReady_frame :
    (enterReady s).pending = s.pending ∧ (enterReady s).now = s.now ∧ (enterReady s).free = s.free ∧
    (enterReady s).retained = s.retained ∧ (enterReady s).port = s.port ∧ (enterReady s).rx = s.rx ∧
    (enterReady s).sender = s.sender ∧ (enterReady s).sounding = s.sounding ∧ (enterReady s).roster = s.roster ∧
    (enterReady s).sched = s.sched ∧ (enterReady s).journal = s.journal ∧ (enterReady s).reply = s.reply ∧
    (enterReady s).isolator = s.isolator ∧ (enterReady s).supply = s.supply ∧ (enterReady s).settings = s.settings ∧
    (enterReady s).ir = s.ir ∧ (enterReady s).indicator = s.indicator := by
  unfold enterReady; (repeat' split) <;> simp

@[simp] theorem beginReset_frame (n : Nat) :
    (beginReset n s).pending = s.pending ∧ (beginReset n s).now = s.now ∧ (beginReset n s).free = s.free ∧
    (beginReset n s).retained = s.retained ∧ (beginReset n s).port = s.port ∧ (beginReset n s).rx = s.rx ∧
    (beginReset n s).sender = s.sender ∧ (beginReset n s).sounding = s.sounding ∧
    (beginReset n s).roster = s.roster ∧ (beginReset n s).sched = s.sched ∧ (beginReset n s).journal = s.journal ∧
    (beginReset n s).reply = s.reply ∧ (beginReset n s).isolator = s.isolator ∧ (beginReset n s).supply = s.supply ∧
    (beginReset n s).settings = s.settings ∧ (beginReset n s).ir = s.ir ∧
    (beginReset n s).indicator = s.indicator := by
  unfold beginReset; simp

@[simp] theorem announce_frame (k : TestKind) :
    (announce k s).pending = s.pending ∧ (announce k s).now = s.now ∧ (announce k s).free = s.free ∧
    (announce k s).retained = s.retained ∧ (announce k s).port = s.port ∧ (announce k s).rx = s.rx ∧
    (announce k s).sounding = s.sounding ∧ (announce k s).roster = s.roster ∧ (announce k s).sched = s.sched ∧
    (announce k s).reply = s.reply ∧ (announce k s).isolator = s.isolator ∧ (announce k s).supply = s.supply ∧
    (announce k s).settings = s.settings ∧ (announce k s).ir = s.ir ∧ (announce k s).indicator = s.indicator := by
  unfold announce; (repeat' split) <;> simp

@[simp] theorem confirmAlarm_frame :
    (confirmAlarm s).pending = s.pending ∧ (confirmAlarm s).now = s.now ∧ (confirmAlarm s).free = s.free ∧
    (confirmAlarm s).retained = s.retained ∧ (confirmAlarm s).port = s.port ∧ (confirmAlarm s).rx = s.rx ∧
    (confirmAlarm s).sounding = s.sounding ∧ (confirmAlarm s).roster = s.roster ∧ (confirmAlarm s).sched = s.sched ∧
    (confirmAlarm s).reply = s.reply ∧ (confirmAlarm s).isolator = s.isolator ∧ (confirmAlarm s).supply = s.supply ∧
    (confirmAlarm s).settings = s.settings ∧ (confirmAlarm s).ir = s.ir ∧
    (confirmAlarm s).indicator = s.indicator := by
  simp [confirmAlarm]

@[simp] theorem declareStuck_frame :
    (declareStuck s).pending = s.pending ∧ (declareStuck s).now = s.now ∧ (declareStuck s).free = s.free ∧
    (declareStuck s).retained = s.retained ∧ (declareStuck s).port = s.port ∧ (declareStuck s).rx = s.rx ∧
    (declareStuck s).sounding = s.sounding ∧ (declareStuck s).roster = s.roster ∧ (declareStuck s).sched = s.sched ∧
    (declareStuck s).reply = s.reply ∧ (declareStuck s).isolator = s.isolator ∧ (declareStuck s).supply = s.supply ∧
    (declareStuck s).settings = s.settings ∧ (declareStuck s).ir = s.ir ∧
    (declareStuck s).indicator = s.indicator := by
  simp [declareStuck]

@[simp] theorem endRecovering_frame :
    (endRecovering s).pending = s.pending ∧ (endRecovering s).now = s.now ∧ (endRecovering s).free = s.free ∧
    (endRecovering s).retained = s.retained ∧ (endRecovering s).port = s.port ∧ (endRecovering s).rx = s.rx ∧
    (endRecovering s).sounding = s.sounding ∧ (endRecovering s).roster = s.roster ∧
    (endRecovering s).sched = s.sched ∧ (endRecovering s).reply = s.reply ∧ (endRecovering s).isolator = s.isolator ∧
    (endRecovering s).supply = s.supply ∧ (endRecovering s).settings = s.settings ∧ (endRecovering s).ir = s.ir ∧
    (endRecovering s).indicator = s.indicator := by
  unfold endRecovering; (repeat' split) <;> simp

@[simp] theorem endResetting_frame :
    (endResetting s).pending = s.pending ∧ (endResetting s).now = s.now ∧ (endResetting s).free = s.free ∧
    (endResetting s).retained = s.retained ∧ (endResetting s).port = s.port ∧ (endResetting s).rx = s.rx ∧
    (endResetting s).sender = s.sender ∧ (endResetting s).sounding = s.sounding ∧
    (endResetting s).roster = s.roster ∧ (endResetting s).sched = s.sched ∧ (endResetting s).journal = s.journal ∧
    (endResetting s).reply = s.reply ∧ (endResetting s).isolator = s.isolator ∧ (endResetting s).supply = s.supply ∧
    (endResetting s).settings = s.settings ∧ (endResetting s).ir = s.ir ∧
    (endResetting s).indicator = s.indicator := by
  unfold endResetting; simp

@[simp] theorem clearHead_frame :
    (clearHead s).pending = s.pending ∧ (clearHead s).now = s.now ∧ (clearHead s).free = s.free ∧
    (clearHead s).retained = s.retained ∧ (clearHead s).port = s.port ∧ (clearHead s).rx = s.rx ∧
    (clearHead s).sender = s.sender ∧ (clearHead s).sounding = s.sounding ∧ (clearHead s).roster = s.roster ∧
    (clearHead s).sched = s.sched ∧ (clearHead s).journal = s.journal ∧ (clearHead s).reply = s.reply ∧
    (clearHead s).isolator = s.isolator ∧ (clearHead s).supply = s.supply ∧ (clearHead s).settings = s.settings ∧
    (clearHead s).ir = s.ir ∧ (clearHead s).indicator = s.indicator := by
  unfold clearHead; (repeat' split) <;> simp

@[simp] theorem turnAlarm_frame (b : Bool) :
    (turnAlarm b s).pending = s.pending ∧ (turnAlarm b s).now = s.now ∧ (turnAlarm b s).free = s.free ∧
    (turnAlarm b s).retained = s.retained ∧ (turnAlarm b s).port = s.port ∧ (turnAlarm b s).rx = s.rx ∧
    (turnAlarm b s).sender = s.sender ∧ (turnAlarm b s).sounding = s.sounding ∧ (turnAlarm b s).roster = s.roster ∧
    (turnAlarm b s).sched = s.sched ∧ (turnAlarm b s).journal = s.journal ∧ (turnAlarm b s).reply = s.reply ∧
    (turnAlarm b s).isolator = s.isolator ∧ (turnAlarm b s).supply = s.supply ∧
    (turnAlarm b s).settings = s.settings ∧ (turnAlarm b s).ir = s.ir ∧ (turnAlarm b s).indicator = s.indicator := by
  unfold turnAlarm; simp

@[simp] theorem turnAlarm_head (b : Bool) : (turnAlarm b s).head = { s.head with alarm := b, alarmFrom := s.now } := rfl

@[simp] theorem assertAlarm_frame :
    (assertAlarm s).pending = s.pending ∧ (assertAlarm s).now = s.now ∧ (assertAlarm s).free = s.free ∧
    (assertAlarm s).retained = s.retained ∧ (assertAlarm s).port = s.port ∧ (assertAlarm s).rx = s.rx ∧
    (assertAlarm s).sender = s.sender ∧ (assertAlarm s).sounding = s.sounding ∧ (assertAlarm s).roster = s.roster ∧
    (assertAlarm s).sched = s.sched ∧ (assertAlarm s).journal = s.journal ∧ (assertAlarm s).reply = s.reply ∧
    (assertAlarm s).isolator = s.isolator ∧ (assertAlarm s).supply = s.supply ∧
    (assertAlarm s).settings = s.settings ∧ (assertAlarm s).ir = s.ir ∧ (assertAlarm s).indicator = s.indicator := by
  simp only [assertAlarm]; (repeat' split) <;> simp

@[simp] theorem releaseAlarm_frame :
    (releaseAlarm s).pending = s.pending ∧ (releaseAlarm s).now = s.now ∧ (releaseAlarm s).free = s.free ∧
    (releaseAlarm s).retained = s.retained ∧ (releaseAlarm s).port = s.port ∧ (releaseAlarm s).rx = s.rx ∧
    (releaseAlarm s).sender = s.sender ∧ (releaseAlarm s).sounding = s.sounding ∧
    (releaseAlarm s).roster = s.roster ∧ (releaseAlarm s).sched = s.sched ∧ (releaseAlarm s).journal = s.journal ∧
    (releaseAlarm s).reply = s.reply ∧ (releaseAlarm s).isolator = s.isolator ∧ (releaseAlarm s).supply = s.supply ∧
    (releaseAlarm s).settings = s.settings ∧ (releaseAlarm s).ir = s.ir ∧
    (releaseAlarm s).indicator = s.indicator := by
  simp only [releaseAlarm]; (repeat' split) <;> simp

@[simp] theorem clearLatch_frame :
    (clearLatch s).pending = s.pending ∧ (clearLatch s).now = s.now ∧ (clearLatch s).free = s.free ∧
    (clearLatch s).retained = s.retained ∧ (clearLatch s).port = s.port ∧ (clearLatch s).rx = s.rx ∧
    (clearLatch s).sender = s.sender ∧ (clearLatch s).sounding = s.sounding ∧ (clearLatch s).roster = s.roster ∧
    (clearLatch s).sched = s.sched ∧ (clearLatch s).journal = s.journal ∧ (clearLatch s).reply = s.reply ∧
    (clearLatch s).isolator = s.isolator ∧ (clearLatch s).supply = s.supply ∧ (clearLatch s).settings = s.settings ∧
    (clearLatch s).ir = s.ir ∧ (clearLatch s).indicator = s.indicator := by
  unfold clearLatch; simp

/-! ### Isolator and supply (Isolator, Supply) -/

@[simp] theorem countSecond_frame :
    (countSecond s).pending = s.pending ∧ (countSecond s).now = s.now ∧ (countSecond s).free = s.free ∧
    (countSecond s).retained = s.retained ∧ (countSecond s).port = s.port ∧ (countSecond s).rx = s.rx ∧
    (countSecond s).sender = s.sender ∧ (countSecond s).sounding = s.sounding ∧ (countSecond s).roster = s.roster ∧
    (countSecond s).sched = s.sched ∧ (countSecond s).head = s.head ∧ (countSecond s).journal = s.journal ∧
    (countSecond s).reply = s.reply ∧ (countSecond s).isolator = s.isolator ∧ (countSecond s).settings = s.settings ∧
    (countSecond s).ir = s.ir ∧ (countSecond s).indicator = s.indicator := by
  unfold countSecond; simp

@[simp] theorem noteCrossing_frame :
    (noteCrossing s).pending = s.pending ∧ (noteCrossing s).now = s.now ∧ (noteCrossing s).free = s.free ∧
    (noteCrossing s).retained = s.retained ∧ (noteCrossing s).port = s.port ∧ (noteCrossing s).sender = s.sender ∧
    (noteCrossing s).sounding = s.sounding ∧ (noteCrossing s).roster = s.roster ∧ (noteCrossing s).sched = s.sched ∧
    (noteCrossing s).head = s.head ∧ (noteCrossing s).journal = s.journal ∧ (noteCrossing s).reply = s.reply ∧
    (noteCrossing s).isolator = s.isolator ∧ (noteCrossing s).supply = s.supply ∧
    (noteCrossing s).settings = s.settings ∧ (noteCrossing s).ir = s.ir ∧
    (noteCrossing s).indicator = s.indicator := by
  unfold noteCrossing; simp

@[simp] theorem openIsolator_frame (r : TailReadings) :
    (openIsolator r s).pending = s.pending ∧ (openIsolator r s).now = s.now ∧ (openIsolator r s).free = s.free ∧
    (openIsolator r s).retained = s.retained ∧ (openIsolator r s).roster = s.roster ∧
    (openIsolator r s).head = s.head ∧ (openIsolator r s).journal = s.journal ∧ (openIsolator r s).reply = s.reply ∧
    (openIsolator r s).supply = s.supply ∧ (openIsolator r s).settings = s.settings ∧ (openIsolator r s).ir = s.ir ∧
    (openIsolator r s).indicator = s.indicator := by
  simp [openIsolator]

@[simp] theorem failTrial_frame :
    (failTrial s).pending = s.pending ∧ (failTrial s).now = s.now ∧ (failTrial s).free = s.free ∧
    (failTrial s).retained = s.retained ∧ (failTrial s).port = s.port ∧ (failTrial s).rx = s.rx ∧
    (failTrial s).sender = s.sender ∧ (failTrial s).sounding = s.sounding ∧ (failTrial s).roster = s.roster ∧
    (failTrial s).sched = s.sched ∧ (failTrial s).head = s.head ∧ (failTrial s).journal = s.journal ∧
    (failTrial s).reply = s.reply ∧ (failTrial s).supply = s.supply ∧ (failTrial s).settings = s.settings ∧
    (failTrial s).ir = s.ir ∧ (failTrial s).indicator = s.indicator := by
  simp only [failTrial]; split <;> simp

@[simp] theorem beginTrial_frame (n : Nat) :
    (beginTrial n s).pending = s.pending ∧ (beginTrial n s).now = s.now ∧ (beginTrial n s).free = s.free ∧
    (beginTrial n s).retained = s.retained ∧ (beginTrial n s).port = s.port ∧ (beginTrial n s).rx = s.rx ∧
    (beginTrial n s).sender = s.sender ∧ (beginTrial n s).sounding = s.sounding ∧
    (beginTrial n s).roster = s.roster ∧ (beginTrial n s).sched = s.sched ∧ (beginTrial n s).head = s.head ∧
    (beginTrial n s).journal = s.journal ∧ (beginTrial n s).reply = s.reply ∧ (beginTrial n s).supply = s.supply ∧
    (beginTrial n s).settings = s.settings ∧ (beginTrial n s).ir = s.ir ∧
    (beginTrial n s).indicator = s.indicator := by
  unfold beginTrial; simp

@[simp] theorem closeIsolator_frame :
    (closeIsolator s).pending = s.pending ∧ (closeIsolator s).now = s.now ∧ (closeIsolator s).free = s.free ∧
    (closeIsolator s).retained = s.retained ∧ (closeIsolator s).sounding = s.sounding ∧
    (closeIsolator s).roster = s.roster ∧ (closeIsolator s).head = s.head ∧ (closeIsolator s).journal = s.journal ∧
    (closeIsolator s).reply = s.reply ∧ (closeIsolator s).supply = s.supply ∧
    (closeIsolator s).settings = s.settings ∧ (closeIsolator s).ir = s.ir ∧
    (closeIsolator s).indicator = s.indicator := by
  simp [closeIsolator]

@[simp] theorem meetShort_frame (r : TailReadings) :
    (meetShort r s).pending = s.pending ∧ (meetShort r s).now = s.now ∧ (meetShort r s).free = s.free ∧
    (meetShort r s).retained = s.retained ∧ (meetShort r s).roster = s.roster ∧ (meetShort r s).head = s.head ∧
    (meetShort r s).journal = s.journal ∧ (meetShort r s).reply = s.reply ∧ (meetShort r s).supply = s.supply ∧
    (meetShort r s).settings = s.settings ∧ (meetShort r s).ir = s.ir ∧ (meetShort r s).indicator = s.indicator := by
  unfold meetShort; (repeat' split) <;> simp

@[simp] theorem clearIsolator_frame :
    (clearIsolator s).pending = s.pending ∧ (clearIsolator s).now = s.now ∧ (clearIsolator s).free = s.free ∧
    (clearIsolator s).retained = s.retained ∧ (clearIsolator s).port = s.port ∧ (clearIsolator s).rx = s.rx ∧
    (clearIsolator s).sender = s.sender ∧ (clearIsolator s).sounding = s.sounding ∧
    (clearIsolator s).roster = s.roster ∧ (clearIsolator s).sched = s.sched ∧ (clearIsolator s).head = s.head ∧
    (clearIsolator s).journal = s.journal ∧ (clearIsolator s).reply = s.reply ∧ (clearIsolator s).supply = s.supply ∧
    (clearIsolator s).settings = s.settings ∧ (clearIsolator s).ir = s.ir ∧
    (clearIsolator s).indicator = s.indicator := by
  unfold clearIsolator; (repeat' split) <;> simp

@[simp] theorem noteLow_frame :
    (noteLow s).pending = s.pending ∧ (noteLow s).now = s.now ∧ (noteLow s).free = s.free ∧
    (noteLow s).retained = s.retained ∧ (noteLow s).port = s.port ∧ (noteLow s).rx = s.rx ∧
    (noteLow s).sender = s.sender ∧ (noteLow s).roster = s.roster ∧ (noteLow s).sched = s.sched ∧
    (noteLow s).head = s.head ∧ (noteLow s).journal = s.journal ∧ (noteLow s).reply = s.reply ∧
    (noteLow s).isolator = s.isolator ∧ (noteLow s).supply = s.supply ∧ (noteLow s).settings = s.settings ∧
    (noteLow s).ir = s.ir ∧ (noteLow s).indicator = s.indicator := by
  unfold noteLow; simp

@[simp] theorem noteNormal_frame :
    (noteNormal s).pending = s.pending ∧ (noteNormal s).now = s.now ∧ (noteNormal s).free = s.free ∧
    (noteNormal s).retained = s.retained ∧ (noteNormal s).port = s.port ∧ (noteNormal s).rx = s.rx ∧
    (noteNormal s).sender = s.sender ∧ (noteNormal s).roster = s.roster ∧ (noteNormal s).sched = s.sched ∧
    (noteNormal s).head = s.head ∧ (noteNormal s).journal = s.journal ∧ (noteNormal s).reply = s.reply ∧
    (noteNormal s).isolator = s.isolator ∧ (noteNormal s).supply = s.supply ∧ (noteNormal s).settings = s.settings ∧
    (noteNormal s).ir = s.ir ∧ (noteNormal s).indicator = s.indicator := by
  unfold noteNormal; simp

/-! ### The IR port (IrEntry) -/

@[simp] theorem rememberWord_frame (w : IrWord) :
    (rememberWord w s).pending = s.pending ∧ (rememberWord w s).now = s.now ∧ (rememberWord w s).free = s.free ∧
    (rememberWord w s).retained = s.retained ∧ (rememberWord w s).port = s.port ∧ (rememberWord w s).rx = s.rx ∧
    (rememberWord w s).sender = s.sender ∧ (rememberWord w s).sounding = s.sounding ∧
    (rememberWord w s).roster = s.roster ∧ (rememberWord w s).sched = s.sched ∧ (rememberWord w s).head = s.head ∧
    (rememberWord w s).journal = s.journal ∧ (rememberWord w s).reply = s.reply ∧
    (rememberWord w s).isolator = s.isolator ∧ (rememberWord w s).supply = s.supply ∧
    (rememberWord w s).settings = s.settings ∧ (rememberWord w s).indicator = s.indicator := by
  unfold rememberWord; simp

@[simp] theorem runEntryTimer_frame :
    (runEntryTimer s).pending = s.pending ∧ (runEntryTimer s).now = s.now ∧ (runEntryTimer s).free = s.free ∧
    (runEntryTimer s).retained = s.retained ∧ (runEntryTimer s).port = s.port ∧ (runEntryTimer s).rx = s.rx ∧
    (runEntryTimer s).sender = s.sender ∧ (runEntryTimer s).sounding = s.sounding ∧
    (runEntryTimer s).roster = s.roster ∧ (runEntryTimer s).sched = s.sched ∧ (runEntryTimer s).head = s.head ∧
    (runEntryTimer s).journal = s.journal ∧ (runEntryTimer s).reply = s.reply ∧
    (runEntryTimer s).isolator = s.isolator ∧ (runEntryTimer s).supply = s.supply ∧
    (runEntryTimer s).settings = s.settings ∧ (runEntryTimer s).indicator = s.indicator := by
  unfold runEntryTimer; (repeat' split) <;> simp

@[simp] theorem leaveEntry_frame :
    (leaveEntry s).pending = s.pending ∧ (leaveEntry s).now = s.now ∧ (leaveEntry s).free = s.free ∧
    (leaveEntry s).retained = s.retained ∧ (leaveEntry s).port = s.port ∧ (leaveEntry s).rx = s.rx ∧
    (leaveEntry s).sender = s.sender ∧ (leaveEntry s).sounding = s.sounding ∧ (leaveEntry s).roster = s.roster ∧
    (leaveEntry s).sched = s.sched ∧ (leaveEntry s).head = s.head ∧ (leaveEntry s).journal = s.journal ∧
    (leaveEntry s).reply = s.reply ∧ (leaveEntry s).isolator = s.isolator ∧ (leaveEntry s).supply = s.supply ∧
    (leaveEntry s).settings = s.settings ∧ (leaveEntry s).indicator = s.indicator := by
  unfold leaveEntry; simp

@[simp] theorem entryError_frame :
    (entryError s).pending = s.pending ∧ (entryError s).now = s.now ∧ (entryError s).free = s.free ∧
    (entryError s).retained = s.retained ∧ (entryError s).port = s.port ∧ (entryError s).rx = s.rx ∧
    (entryError s).sender = s.sender ∧ (entryError s).sounding = s.sounding ∧ (entryError s).roster = s.roster ∧
    (entryError s).sched = s.sched ∧ (entryError s).head = s.head ∧ (entryError s).journal = s.journal ∧
    (entryError s).reply = s.reply ∧ (entryError s).isolator = s.isolator ∧ (entryError s).supply = s.supply ∧
    (entryError s).settings = s.settings := by
  unfold entryError; simp

@[simp] theorem stage_frame (v d : Nat) :
    (stage v d s).pending = s.pending ∧ (stage v d s).now = s.now ∧ (stage v d s).free = s.free ∧
    (stage v d s).retained = s.retained ∧ (stage v d s).port = s.port ∧ (stage v d s).rx = s.rx ∧
    (stage v d s).sender = s.sender ∧ (stage v d s).sounding = s.sounding ∧ (stage v d s).roster = s.roster ∧
    (stage v d s).sched = s.sched ∧ (stage v d s).head = s.head ∧ (stage v d s).journal = s.journal ∧
    (stage v d s).reply = s.reply ∧ (stage v d s).isolator = s.isolator ∧ (stage v d s).supply = s.supply ∧
    (stage v d s).settings = s.settings ∧ (stage v d s).indicator = s.indicator := by
  unfold stage; simp

@[simp] theorem pressDigit_frame (d : Nat) :
    (pressDigit d s).pending = s.pending ∧ (pressDigit d s).now = s.now ∧ (pressDigit d s).free = s.free ∧
    (pressDigit d s).retained = s.retained ∧ (pressDigit d s).port = s.port ∧ (pressDigit d s).rx = s.rx ∧
    (pressDigit d s).sender = s.sender ∧ (pressDigit d s).sounding = s.sounding ∧
    (pressDigit d s).roster = s.roster ∧ (pressDigit d s).sched = s.sched ∧ (pressDigit d s).head = s.head ∧
    (pressDigit d s).journal = s.journal ∧ (pressDigit d s).reply = s.reply ∧
    (pressDigit d s).isolator = s.isolator ∧ (pressDigit d s).supply = s.supply ∧
    (pressDigit d s).settings = s.settings := by
  unfold pressDigit; (repeat' split) <;> simp

@[simp] theorem beginWrite_frame (x : Site) (a : Nat) :
    (beginWrite x a s).pending = s.pending ∧ (beginWrite x a s).now = s.now ∧
    (beginWrite x a s).retained = s.retained ∧ (beginWrite x a s).port = s.port ∧ (beginWrite x a s).rx = s.rx ∧
    (beginWrite x a s).sender = s.sender ∧ (beginWrite x a s).sounding = s.sounding ∧
    (beginWrite x a s).roster = s.roster ∧ (beginWrite x a s).sched = s.sched ∧ (beginWrite x a s).head = s.head ∧
    (beginWrite x a s).journal = s.journal ∧ (beginWrite x a s).reply = s.reply ∧
    (beginWrite x a s).isolator = s.isolator ∧ (beginWrite x a s).supply = s.supply ∧
    (beginWrite x a s).indicator = s.indicator := by
  simp [beginWrite]

@[simp] theorem pressEnter_frame (w : IrWord) :
    (pressEnter w s).pending = s.pending ∧ (pressEnter w s).now = s.now ∧ (pressEnter w s).retained = s.retained ∧
    (pressEnter w s).port = s.port ∧ (pressEnter w s).rx = s.rx ∧ (pressEnter w s).sender = s.sender ∧
    (pressEnter w s).sounding = s.sounding ∧ (pressEnter w s).roster = s.roster ∧ (pressEnter w s).sched = s.sched ∧
    (pressEnter w s).head = s.head ∧ (pressEnter w s).journal = s.journal ∧ (pressEnter w s).reply = s.reply ∧
    (pressEnter w s).isolator = s.isolator ∧ (pressEnter w s).supply = s.supply := by
  unfold pressEnter; (repeat' split) <;> simp

@[simp] theorem pressSiteClear_frame :
    (pressSiteClear s).pending = s.pending ∧ (pressSiteClear s).now = s.now ∧
    (pressSiteClear s).retained = s.retained ∧ (pressSiteClear s).port = s.port ∧ (pressSiteClear s).rx = s.rx ∧
    (pressSiteClear s).sender = s.sender ∧ (pressSiteClear s).sounding = s.sounding ∧
    (pressSiteClear s).roster = s.roster ∧ (pressSiteClear s).sched = s.sched ∧ (pressSiteClear s).head = s.head ∧
    (pressSiteClear s).journal = s.journal ∧ (pressSiteClear s).reply = s.reply ∧
    (pressSiteClear s).isolator = s.isolator ∧ (pressSiteClear s).supply = s.supply := by
  unfold pressSiteClear; (repeat' split) <;> simp

@[simp] theorem abandonHold_frame :
    (abandonHold s).pending = s.pending ∧ (abandonHold s).now = s.now ∧ (abandonHold s).free = s.free ∧
    (abandonHold s).retained = s.retained ∧ (abandonHold s).port = s.port ∧ (abandonHold s).rx = s.rx ∧
    (abandonHold s).sender = s.sender ∧ (abandonHold s).sounding = s.sounding ∧ (abandonHold s).roster = s.roster ∧
    (abandonHold s).sched = s.sched ∧ (abandonHold s).head = s.head ∧ (abandonHold s).journal = s.journal ∧
    (abandonHold s).reply = s.reply ∧ (abandonHold s).isolator = s.isolator ∧ (abandonHold s).supply = s.supply ∧
    (abandonHold s).settings = s.settings ∧ (abandonHold s).indicator = s.indicator := by
  unfold abandonHold; (repeat' split) <;> simp

@[simp] theorem discardWord_frame (w : IrWord) :
    (discardWord w s).pending = s.pending ∧ (discardWord w s).now = s.now ∧ (discardWord w s).free = s.free ∧
    (discardWord w s).retained = s.retained ∧ (discardWord w s).port = s.port ∧ (discardWord w s).rx = s.rx ∧
    (discardWord w s).sender = s.sender ∧ (discardWord w s).sounding = s.sounding ∧
    (discardWord w s).roster = s.roster ∧ (discardWord w s).sched = s.sched ∧ (discardWord w s).head = s.head ∧
    (discardWord w s).journal = s.journal ∧ (discardWord w s).reply = s.reply ∧
    (discardWord w s).isolator = s.isolator ∧ (discardWord w s).supply = s.supply ∧
    (discardWord w s).settings = s.settings := by
  unfold discardWord; (repeat' split) <;> simp

@[simp] theorem endStoring_frame :
    (endStoring s).pending = s.pending ∧ (endStoring s).now = s.now ∧ (endStoring s).free = s.free ∧
    (endStoring s).retained = s.retained ∧ (endStoring s).port = s.port ∧ (endStoring s).rx = s.rx ∧
    (endStoring s).sender = s.sender ∧ (endStoring s).sounding = s.sounding ∧ (endStoring s).roster = s.roster ∧
    (endStoring s).sched = s.sched ∧ (endStoring s).head = s.head ∧ (endStoring s).journal = s.journal ∧
    (endStoring s).reply = s.reply ∧ (endStoring s).isolator = s.isolator ∧ (endStoring s).supply = s.supply ∧
    (endStoring s).settings = s.settings ∧ (endStoring s).indicator = s.indicator := by
  unfold endStoring; simp

@[simp] theorem endFeedback_frame :
    (endFeedback s).pending = s.pending ∧ (endFeedback s).now = s.now ∧ (endFeedback s).free = s.free ∧
    (endFeedback s).retained = s.retained ∧ (endFeedback s).port = s.port ∧ (endFeedback s).rx = s.rx ∧
    (endFeedback s).sender = s.sender ∧ (endFeedback s).sounding = s.sounding ∧ (endFeedback s).roster = s.roster ∧
    (endFeedback s).sched = s.sched ∧ (endFeedback s).head = s.head ∧ (endFeedback s).journal = s.journal ∧
    (endFeedback s).reply = s.reply ∧ (endFeedback s).isolator = s.isolator ∧ (endFeedback s).supply = s.supply ∧
    (endFeedback s).settings = s.settings ∧ (endFeedback s).ir = s.ir := by
  unfold endFeedback; simp

@[simp] theorem endIdentify_frame :
    (endIdentify s).pending = s.pending ∧ (endIdentify s).now = s.now ∧ (endIdentify s).free = s.free ∧
    (endIdentify s).retained = s.retained ∧ (endIdentify s).port = s.port ∧ (endIdentify s).rx = s.rx ∧
    (endIdentify s).sender = s.sender ∧ (endIdentify s).sounding = s.sounding ∧ (endIdentify s).roster = s.roster ∧
    (endIdentify s).sched = s.sched ∧ (endIdentify s).head = s.head ∧ (endIdentify s).journal = s.journal ∧
    (endIdentify s).reply = s.reply ∧ (endIdentify s).isolator = s.isolator ∧ (endIdentify s).supply = s.supply ∧
    (endIdentify s).settings = s.settings ∧ (endIdentify s).ir = s.ir := by
  unfold endIdentify; simp

end Sys2Proof.Machine
end

