-- ==== Sys2Proof/Laws/Requests.lean ====
section
/-! SUPPORT. What each shared operation of Ops can do, said once: the end of a command, timers, fill requests, requests for a
PRESENCE, the end of a message, quiet. The right sides are the terms of Safety. -/

namespace Sys2Proof.Machine

variable (s : State)

/-! ### The end of a command -/

theorem refreshIndicator_eq : s.refreshIndicator = { s with indicator := s.refreshIndicator.indicator } := by
  unfold State.refreshIndicator; split <;> rfl

/-- The pattern of the first condition reads nothing of the LED block but its two timers. -/
theorem firstCondition_refresh : s.refreshIndicator.firstCondition = s.firstCondition := by
  unfold State.refreshIndicator; split <;> rfl

/-- The LED block after a command whose effect `x` has given it the block `s.indicator`. -/
theorem ledFollows_refresh (x : State) (h : x.indicator = s.indicator) : LedFollows s x.refreshIndicator := by
  unfold LedFollows
  rw [firstCondition_refresh, (State.refreshIndicator_frame x).2.1, ← h]
  unfold State.refreshIndicator
  split
  · rename_i he; rw [he]
  · simp

/-- What a command answers whose effect is `x` and leaves the LED block alone. -/
theorem done_answers (x : State) (h : x.indicator = s.indicator) :
    ∃ u, done x = .next u ∧ LedFollows s u ∧ u = { x with indicator := u.indicator } :=
  ⟨x.refreshIndicator, rfl, ledFollows_refresh s x h, refreshIndicator_eq x⟩

theorem whenRunning_running (f : State → State) (h : s.supply.phase = .running) : whenRunning f s = f s := by
  simp [whenRunning, State.Running, h]

theorem whenRunning_not (f : State → State) (h : s.supply.phase ≠ .running) : whenRunning f s = s := by
  simp [whenRunning, State.Running, h]

@[simp] theorem onExpiry_none (f : State → State) : onExpiry none f s = s := rfl

@[simp] theorem onExpiry_some (d : Nat) (f : State → State) : onExpiry (some d) f s = f (s.advance d) := rfl

/-! ### Fill requests and requests for a PRESENCE (R7, R115, R117, R120) -/

theorem onLine_eq (k : OutKind) : s.onLine k = true ↔ ∃ o, s.sender.outgoing = some o ∧ o.kind = k := by
  cases h : s.sender.outgoing <;> simp [State.onLine, h]

/-- A fill request changes its slot alone. -/
theorem fillSlot_eq (k : OutKind) : fillSlot k s = s.setSlot k (slotAfterFill s k) := by
  have same : s.setSlot k (s.sender.slot k) = s := by cases k <;> rfl
  unfold fillSlot slotAfterFill
  (repeat' split) <;> first | rfl | exact same.symm

/-- A routine request changes the PRESENCE slot and the scheduler alone. -/
theorem routineRequest_eq : routineRequest s =
    { s with
      sender := { s.sender with presence := presenceAfterRoutine s }
      sched := schedAfterRoutine s } := by
  unfold routineRequest presenceAfterRoutine schedAfterRoutine State.quietHolds
  cases h : s.sched.quietUntil with
  | none => simp [fillSlot_eq, State.setSlot, LineSender.setSlot]
  | some d => cases hw : s.presenceWaits <;> simp [defer]

/-- An exempt request changes the PRESENCE slot and the exempt marks alone. -/
theorem exemptRequest_eq : exemptRequest s =
    { s with
      sender := { s.sender with presence := presenceAfterExempt s }
      sched := schedAfterExempt s } := by
  unfold exemptRequest presenceAfterExempt schedAfterExempt
  by_cases hl : s.retained.lockout = true
  · simp [hl, slotAfterFill, LineSender.slot]
  · by_cases ho : s.onLine .presence = true
    · simp only [hl, ho, fillSlot_eq, if_true]; rfl
    · simp only [hl, ho, fillSlot_eq]; rfl

/-- Quiet's withdrawal changes the PRESENCE slot and the mark of a presence owed alone. -/
theorem holdBack_eq : holdBack s =
    if s.sched.quietUntil ≠ none ∧ s.presenceWaits = true ∧ s.sched.exempt = false then
      { s with
        sender := { s.sender with presence := {} }
        sched := { s.sched with deferred := true } }
    else s := by
  unfold holdBack State.quietHolds
  cases s.sched.quietUntil <;> simp [defer, State.setSlot, LineSender.setSlot]

/-! ### The end of a message (R7, R11, R114, R117, R160) -/

/-- A message lost or aborted below the limit, once the line has left it. -/
theorem messageRetried_eq (k : OutKind) (n : Nat) (hl : s.sender.outgoing = none) : messageRetried k n s =
    { s with
      sender := { senderAfterRetry s k n with state := s.sender.state }
      sched := if k = .presence then schedAfterRetry s else s.sched } := by
  cases k with
  | test => simp [messageRetried, senderAfterRetry, State.setSlot, LineSender.setSlot, LineSender.slot, hl]
  | reply => simp [messageRetried, senderAfterRetry, State.setSlot, LineSender.setSlot, LineSender.slot, hl]
  | presence =>
    simp only [messageRetried, holdBack_eq, senderAfterRetry, schedAfterRetry, presenceAfterRetry, State.presenceWaits,
      State.onLine, State.setSlot, LineSender.setSlot, LineSender.slot, hl]
    by_cases hq : s.sched.quietUntil = none <;> by_cases hf : s.sender.presence.filled = true <;>
      by_cases he : s.sched.exempt = true <;> by_cases hr : s.sched.exemptRefill = true <;>
      simp [hq, hf, he, hr, Option.isSome_iff_ne_none]

/-- A message sent or discarded, once the line has left it. -/
theorem messageEnded_eq (k : OutKind) (hl : s.sender.outgoing = none) : messageEnded k s =
    { s with
      sender := senderAfterEnd s k s.sender.state s.sender.tailAt
      sched := if k = .presence then schedAfterEnd s s.now else s.sched
      reply := if k = .reply then { record := none } else s.reply } := by
  cases k with
  | test =>
    by_cases hr : s.sender.test.refill = true <;> by_cases hk : s.retained.lockout = true <;>
      simp [messageEnded, senderAfterEnd, slotAfterEnd, tellOwner, State.setSlot, LineSender.setSlot, LineSender.slot, hl,
        fillSlot_eq, slotAfterFill, hr, hk]
  | reply =>
    by_cases hr : s.sender.reply.refill = true <;> by_cases hk : s.retained.lockout = true <;>
      simp [messageEnded, senderAfterEnd, slotAfterEnd, tellOwner, State.setSlot, LineSender.setSlot, LineSender.slot, hl,
        fillSlot_eq, slotAfterFill, hr, hk]
  | presence =>
    by_cases hr : s.sender.presence.refill = true <;> by_cases hk : s.retained.lockout = true <;>
      by_cases hq : s.sched.quietUntil = none <;> by_cases he : s.sched.exemptRefill = true <;>
      simp [messageEnded, holdBack_eq, senderAfterEnd, presenceAfterEnd, schedAfterEnd, tellOwner, startPresenceTimer,
        State.timerFor, State.presenceWaits, State.onLine, State.setSlot, LineSender.setSlot, LineSender.slot, hl, fillSlot_eq,
        slotAfterFill, hr, hk, hq, he, Option.isSome_iff_ne_none]

/-! ### Quiet (R119 to R121) -/

/-- The end of quiet changes the PRESENCE slot and the scheduler alone. -/
theorem endQuiet_eq : endQuiet s =
    { s with
      sender := { s.sender with presence := presenceAfterQuiet s }
      sched := schedAfterQuiet s s.now } := by
  unfold endQuiet presenceAfterQuiet schedAfterQuiet
  by_cases hd : s.sched.deferred = true
  · by_cases ho : s.sched.offset = 0
    · simp [hd, ho, routineRequest_eq, presenceAfterRoutine, schedAfterRoutine]; rfl
    · simp [hd, ho, State.timerFor]
  · simp [hd]

/-- A QUIET of 1 s or more sets quiet-until, at most 60 s ahead, and withdraws a PRESENCE that waits without the exempt
mark. -/
theorem takeQuiet_positive (d : Nat) (hd : 0 < d) : takeQuiet d s =
    { s with
      sender := if s.presenceWaits = true ∧ s.sched.exempt = false then { s.sender with presence := {} } else s.sender
      sched := { s.sched with
        quietUntil := some (s.now + seconds (min d 60))
        deferred := s.sched.deferred || decide (s.presenceWaits = true ∧ s.sched.exempt = false) } } := by
  have h0 : d ≠ 0 := by omega
  have hw (x : Scheduler) : State.presenceWaits { s with sched := x } = s.presenceWaits := rfl
  unfold takeQuiet
  by_cases h : s.presenceWaits = true ∧ s.sched.exempt = false
  · simp [h0, holdBack_eq, State.timerFor, Config.quietTop, hw, h]
  · simp [h0, holdBack_eq, State.timerFor, Config.quietTop, hw, h]

end Sys2Proof.Machine
end

