-- ==== Sys2Proof/Laws/Line.lean ====
section
/-! SUPPORT. What the shared operations of the line and of the sounding unit can do, said once. -/

namespace Sys2Proof.Machine

variable (s : State)

/-- The I-channel of a frame that the isolator never muted judges every half-cell by its change alone (R3). -/
theorem heardOnI_unmuted (f : RxFrame) (h : Heard) (hm : f.mutedAtStart = false) (hc : f.crossings = []) :
    heardOnI f h = h.through.map (judgeI f.orientation) := by
  have key : ∀ k cs, halvesOnI f k cs = cs.map (judgeI f.orientation) := by
    intro k cs
    induction cs generalizing k with
    | nil => rfl
    | cons c cs ih => simp [halvesOnI, ih, RxFrame.mutedAt, hm, hc]
  exact key 0 h.through

theorem judgeV_iff (dip : Int) : judgeV dip = true ↔ 8 ≤ dip := decide_eq_true_iff

/-- More than 50 ms of current without a break, both since the last gap and since the start (R12). -/
theorem drewTooLong_iff (d : SinkDrawn) :
    s.DrewTooLong d ↔ d.since + 50000 < d.upTo ∧ s.port.guardFrom + 50000 < d.upTo := by
  simp only [State.DrewTooLong, Config.sinkLimit]; omega

theorem hasLine_iff : s.hasLine = false ↔ LineFree s := by
  simp [State.hasLine, LineFree]

@[simp] theorem heardQuiet_none : s.heardQuiet none = true := rfl

/-- An idle is judged 6 ms after the last sink known of, by a station with no message of its own on the line (R5). -/
theorem mayJudgeIdle_iff (h : Option Heard) :
    s.mayJudgeIdle h = true ↔ s.rx.idleNotBefore ≤ s.now ∧ LineFree s ∧ s.heardQuiet h = true := by
  simp [State.mayJudgeIdle, hasLine_iff, and_assoc]

/-- Sink heard changes nothing but the moment from which an idle can be judged (R5). -/
theorem noteSink_eq (m : Nat) : noteSink m s = { s with rx := receiverAfterSink s.rx m } := rfl

/-- The line comes back from an own tail that ends at `e` (R41). -/
theorem returnLine_eq (e : Nat) (ht : s.sender.state = .tail) (he : s.sender.tailAt = some e) :
    returnLine s = { s with rx := receiverAfterTail s e, sender := senderAfterTail s e } := by
  have hs : senderAfterTail s e = { s.sender with state := .waiting, tailAt := none } := if_pos ⟨ht, he⟩
  have hr : receiverAfterTail s e = if s.hearsOwnTail = true then receiverAfterSink s.rx (e - 2000) else s.rx := by
    simp [receiverAfterTail, State.hearsOwnTail, ht, he]
  rw [hs, hr]
  unfold returnLine
  split <;> simp [noteSink_eq, receiverAfterSink, he, Config.tailPeriod]

/-- The next tail to end is the observed one where no own tail ends before it (R41, R45). -/
theorem tailEndsAt_observed (o : Observation) (ho : s.sounding.obs = some o) (hn : NoOwnTailBefore s o.endsAt) :
    s.tailEndsAt = some o.endsAt ∧ s.observedEnd = some o.endsAt := by
  have hb : s.observedEnd = some o.endsAt := by simp [State.observedEnd, ho]
  refine ⟨?_, hb⟩
  by_cases ht : s.sender.state = .tail
  · cases he : s.sender.tailAt with
    | none => simp [State.tailEndsAt, hb, State.ownTailEnd, ht, he, earlier]
    | some e => simp [State.tailEndsAt, hb, State.ownTailEnd, ht, he, earlier, hn e ht he]
  · simp [State.tailEndsAt, hb, State.ownTailEnd, ht, earlier]

/-- Where the observed tail ends, it is decided, and the own tail returns if it is the same (R41, R45). -/
theorem endTail_observed (r : TailReadings) (o : Observation) (ho : s.sounding.obs = some o)
    (hn : NoOwnTailBefore s o.endsAt) : endTail r s = { decideObservation r s with
      rx := receiverAfterTail s o.endsAt
      sender := senderAfterTail s o.endsAt } := by
  obtain ⟨h1, h2⟩ := tailEndsAt_observed s o ho hn
  have hd := decideObservation_frame s r
  by_cases h : s.sender.state = .tail ∧ s.sender.tailAt = some o.endsAt
  · have h3 : s.ownTailEnd = some o.endsAt := by simp [State.ownTailEnd, h.1, h.2]
    simp only [endTail, h1, h2, h3, if_true]
    rw [returnLine_eq _ o.endsAt (by simp [h.1]) (by simp [h.2])]
    simp [receiverAfterTail, senderAfterTail]
  · have h3 : s.ownTailEnd ≠ some o.endsAt := by
      unfold State.ownTailEnd; split
      · exact fun e => h ⟨‹_›, e⟩
      · simp
    have hr : receiverAfterTail s o.endsAt = s.rx := if_neg fun x => h ⟨x.1, x.2.1⟩
    have hs : senderAfterTail s o.endsAt = s.sender := if_neg h
    simp only [endTail, h1, h2, h3, if_true, if_false, hr, hs]
    generalize decideObservation r s = u at *
    cases u; simp_all

/-- Where an own tail that is not observed ends first, the line returns and nothing else changes (R41, R44). -/
theorem endTail_own (r : TailReadings) (e : Nat) (ht : s.sender.state = .tail) (he : s.sender.tailAt = some e)
    (ho : ∀ o, s.sounding.obs = some o → e < o.endsAt) : s.tailEndsAt = some e ∧
    endTail r s = { s with rx := receiverAfterTail s e, sender := senderAfterTail s e } := by
  have h3 : s.ownTailEnd = some e := by simp [State.ownTailEnd, ht, he]
  have h1 : s.tailEndsAt = some e ∧ s.observedEnd ≠ some e := by
    cases hb : s.sounding.obs with
    | none => simp [State.tailEndsAt, State.observedEnd, hb, h3, earlier]
    | some o =>
      have := ho o hb
      simp only [State.tailEndsAt, State.observedEnd, hb, h3, Option.map_some, earlier, Option.some.injEq, ne_eq]
      omega
  exact ⟨h1.1, by simp only [endTail, h1, h3, if_true, if_false, returnLine_eq s e ht he]⟩

/-- Beginning a frame changes the receiver alone. -/
theorem beginFrame_eq : beginFrame s = { s with rx := receiverAtStart s s.now } := by
  simp [beginFrame, receiverAtStart, newFrame, State.isolating, Config.contentionHalves, Config.halfCell, Config.idleTime]

/-- An observation cut off leaves its samples in the store and nothing more (R42, R45). -/
theorem dropped_eq (r : TailReadings) (o : Observation) :
    dropObservation (writeSamples r o s) = { s with sounding := soundingCut s.sounding o r s.now } := rfl

/-- An observation whose isolator leaves CLOSED is abandoned (R44). -/
theorem abandon_eq (r : TailReadings) : abandon r s = { s with
    sounding := match s.sounding.obs with
      | none => s.sounding
      | some o => soundingCut s.sounding o r s.now } := by
  unfold abandon
  split <;> simp [*, dropped_eq]

/-- An idle that comes before the end of period 63 ends the observation (R45, R47). -/
theorem truncate_eq (r : TailReadings) : truncate r s = { s with
    sounding := match s.sounding.obs with
      | none => s.sounding
      | some o =>
        if o.endsAt ≤ s.now then s.sounding
        else { soundingCut s.sounding o r s.now with
          lastRejection := if o.flipped = true then s.sounding.lastRejection else .truncated } } := by
  unfold truncate
  cases s.sounding.obs with
  | none => rfl
  | some o =>
    by_cases h : o.endsAt ≤ s.now
    · simp [h]
    · by_cases hf : o.flipped = true <;> simp [h, hf, dropped_eq, reject, soundingCut]

/-- The criterion can have held for 1 ms within a trial that has run for 1 ms (R163, R165; log 46). -/
theorem heldInTrial_iff : s.heldInTrial = true ↔ ∀ e, s.isolator.timer = some e → e ≤ s.now + 99000 := by
  have key : ∀ e, e + Config.shortHold ≤ s.now + Config.trialTime ↔ e ≤ s.now + 99000 := by
    intro e; unfold Config.shortHold Config.trialTime; omega
  unfold State.heldInTrial
  cases s.isolator.timer with
  | none => simp
  | some e => simp [key]

/-- A criterion held so long in a trial fails it, and one that has not changes nothing (R166, log 46). -/
theorem meetShort_trial (r : TailReadings) (h : s.isolator.state = .trial) :
    meetShort r s = if s.heldInTrial = true then failTrial s else s := by simp only [meetShort, h]

/-- The slot that is sent first (R8). -/
theorem pickSlot_none (x : LineSender) (h : ∀ k, (x.slot k).filled = false) : pickSlot x = none := by
  have h1 := h .test; have h2 := h .reply; have h3 := h .presence
  simp only [LineSender.slot] at h1 h2 h3
  simp [pickSlot, h1, h2, h3]

/-- With no slot filled nothing is started at an idle. -/
theorem contend_empty (h : ∀ k, (s.sender.slot k).filled = false) : contend s = s := by
  simp [contend, pickSlot_none _ h]

/-- A message started at an idle: what is captured, and the frame that begins. -/
theorem beginMessage_eq (k : OutKind) (fields : List Byte) (h : captureFields (beforeCapture k s) k = some fields) :
    beginMessage k s = { beforeCapture k s with
      rx := receiverAtStart s s.now
      sender := { s.sender with
        state := .contending
        outgoing := some {
          kind := k, fields := fields, startedAt := s.now
          soundFollows := decide (k = .presence) && s.tailWouldFollow } } } := by
  simp only [beginMessage, h, beginFrame_eq]
  cases k <;> rfl

/-- An observation begins only while the isolator is CLOSED, one at a time (R44, R45). -/
theorem observe_eq (o : Observation) : observe o s = { s with
    sounding := if s.isolator.state = .closed ∧ s.sounding.obs = none then { s.sounding with obs := some o }
      else s.sounding } := by
  unfold observe; split <;> simp

end Sys2Proof.Machine
end

