-- ==== Sys2Proof/Laws/Arithmetic.lean ====
section
/-! SUPPORT. The sounding unit's arithmetic in the terms of Safety: the checks in their order, rounding half-up, the two samples
and the running merge; and the judgement of IR words. -/

namespace Sys2Proof.Machine

theorem clippedSample_iff (x : Int) : clippedSample x = true ↔ x = -2048 ∨ x = 2047 := by
  simp [clippedSample, Config.sampleLow, Config.sampleHigh]

theorem someClipped_iff (v i : List Int) :
    (v.any clippedSample = true ∨ i.any clippedSample = true) ↔ SomeClipped v i := by
  simp only [SomeClipped, List.any_eq_true, clippedSample_iff, List.mem_append]
  constructor
  · rintro (⟨x, hx, h⟩ | ⟨x, hx, h⟩)
    · exact ⟨x, .inl hx, h⟩
    · exact ⟨x, .inr hx, h⟩
  · rintro ⟨x, hx | hx, h⟩
    · exact .inl ⟨x, hx, h⟩
    · exact .inr ⟨x, hx, h⟩

/-- The rejection kind is that of the check that fails first (R46). -/
theorem rejection_some (low : Bool) (v i : List Int) (k : RejectionKind) :
    rejection low v i = some k ↔ RejectedAs low v i k := by
  have hd : allowedSpread v < spread v ↔ Disturbed v := Iff.rfl
  have hs (a : RejectionKind) : some a = some k ↔ k = a := ⟨fun h => (Option.some.inj h).symm, fun h => h ▸ rfl⟩
  unfold rejection RejectedAs
  by_cases h1 : low = true
  · rw [if_pos h1, hs]; simp [h1]
  rw [if_neg h1]
  by_cases h2 : SomeClipped v i
  · rw [if_pos ((someClipped_iff v i).2 h2), hs]; simp [h1, h2]
  rw [if_neg (mt (someClipped_iff v i).1 h2)]
  by_cases h3 : Disturbed v
  · rw [if_pos (hd.2 h3), hs]; simp [h1, h2, h3]
  rw [if_neg (mt hd.1 h3)]
  by_cases h4 : vAccumulation v ≤ 0
  · rw [if_pos h4, hs]; simp [h1, h2, h3, h4]
  · rw [if_neg h4]; simp [h1, h2, h3, h4]

/-- An observation is accepted when every check passes (R46). -/
theorem rejection_none (low : Bool) (v i : List Int) : rejection low v i = none ↔ AcceptedObservation low v i := by
  have hd : allowedSpread v < spread v ↔ Disturbed v := Iff.rfl
  unfold rejection AcceptedObservation
  by_cases h1 : low = true
  · rw [if_pos h1]; simp [h1]
  rw [if_neg h1]
  by_cases h2 : SomeClipped v i
  · rw [if_pos ((someClipped_iff v i).2 h2)]; simp [h2]
  rw [if_neg (mt (someClipped_iff v i).1 h2)]
  by_cases h3 : Disturbed v
  · rw [if_pos (hd.2 h3)]; simp [h3]
  rw [if_neg (mt hd.1 h3)]
  by_cases h4 : vAccumulation v ≤ 0
  · rw [if_pos h4]; simp [Int.not_lt.2 h4]
  · rw [if_neg h4]; simp [h1, h2, h3, Int.not_le.1 h4]

/-- The survey divider rounds half-up (R52). -/
theorem roundedDiv_halfUp (n d : Nat) (hd : 0 < d) : HalfUp n d (roundedDiv n d) := by
  have h1 := Nat.div_add_mod n d
  have h2 := Nat.mod_lt n hd
  unfold HalfUp roundedDiv
  generalize n / d = q at *
  generalize n % d = r at *
  subst h1
  split
  · constructor <;> grind
  · constructor <;> grind

/-- Half-up rounding has one answer. -/
theorem halfUp_unique (n d p q : Nat) (hp : HalfUp n d p) (hq : HalfUp n d q) : p = q := by
  obtain ⟨p1, p2⟩ := hp
  obtain ⟨q1, q2⟩ := hq
  rcases Nat.lt_trichotomy p q with h | h | h
  · have := Nat.mul_le_mul_right d (Nat.mul_le_mul_left 2 h)
    simp only [Nat.succ_eq_add_one] at this
    omega
  · exact h
  · have := Nat.mul_le_mul_right d (Nat.mul_le_mul_left 2 h)
    simp only [Nat.succ_eq_add_one] at this
    omega

theorem depthSample_eq (trim : Nat) (ht : 0 < trim) (v : List Int) (x : Nat) (h : DepthSampleIs trim v x) :
    depthSample (vAccumulation v) trim = x :=
  halfUp_unique _ _ _ _ (roundedDiv_halfUp _ _ (by omega)) h

theorem fractionSample_eq (trim : Nat) (ht : 0 < trim) (c : Int) (x : Nat) (h : FractionSampleIs trim c x) :
    fractionSample c trim = x := by
  unfold fractionSample
  rcases h with ⟨hc, rfl⟩ | ⟨hc, q, hq, rfl⟩
  · simp [hc]
  · have := halfUp_unique _ _ _ _ (roundedDiv_halfUp (c.toNat * 625) (2 * trim) (by omega)) hq
    rw [this, if_neg (by omega)]
    split <;> omega

theorem usedC_eq (noted : Orientation) (i : List Int) : usedC noted (iAccumulation i) = UsedAccumulation noted i := by
  cases noted <;> simp [usedC, UsedAccumulation]

/-- The running merge of an observation into a figure (R56, R58). -/
theorem merged_eq (quality : Nat) (old : Option Nat) (x : Nat) :
    some (merged quality old x) = figureAfter quality old x := by
  unfold merged figureAfter; split <;> rfl

theorem countUp_quality (q : Nat) : countUp Config.qualityTop q = qualityAfter q := rfl

end Sys2Proof.Machine
end

