-- ==== Sys2Proof/Laws/Roster.lean ====
section
/-! SUPPORT. The roster's shared operations, said once: looking an entry up after each of them, the order they keep, the entry
that gives way, and when a request is made. -/

namespace Sys2Proof.Machine

/-- The entry of a serial in a list of entries. -/
theorem find_def (r : Roster) (x : Serial) : r.find x = r.entries.find? fun e => decide (e.serial = x) := rfl

theorem find_serial (r : Roster) (x : Serial) (e : Entry) (h : r.find x = some e) : e.serial = x := by
  simpa using List.find?_some h

/-! ### Looking up after an operation -/

theorem find_replace_same (e : Entry) (es : List Entry) (old : Entry)
    (h : es.find? (fun x => decide (x.serial = e.serial)) = some old) :
    (replaceEntry e es).find? (fun x => decide (x.serial = e.serial)) = some e := by
  induction es with
  | nil => simp at h
  | cons y ys ih =>
    by_cases hy : y.serial = e.serial
    · simp [replaceEntry, hy]
    · simp only [List.find?_cons, hy, decide_false] at h
      simp only [replaceEntry, List.map_cons, hy, if_false, List.find?_cons, decide_false]
      exact ih h

theorem find_replace_other (e : Entry) (es : List Entry) (x : Serial) (h : x ≠ e.serial) :
    (replaceEntry e es).find? (fun y => decide (y.serial = x)) = es.find? fun y => decide (y.serial = x) := by
  induction es with
  | nil => rfl
  | cons y ys ih =>
    by_cases hy : y.serial = e.serial
    · have hyx : ¬y.serial = x := fun hx => h (hx.symm.trans hy)
      have hex : ¬e.serial = x := fun hx => h hx.symm
      simp only [replaceEntry, List.map_cons, hy, if_true, List.find?_cons, hex, decide_false]
      exact ih
    · simp only [replaceEntry, List.map_cons, hy, if_false, List.find?_cons]
      rw [← ih]; rfl

theorem find_drop_same (es : List Entry) (x : Serial) :
    (dropSerial x es).find? (fun y => decide (y.serial = x)) = none := by
  simp [dropSerial]

theorem find_drop_other (es : List Entry) (x z : Serial) (h : x ≠ z) :
    (dropSerial z es).find? (fun y => decide (y.serial = x)) = es.find? fun y => decide (y.serial = x) := by
  induction es with
  | nil => rfl
  | cons y ys ih =>
    by_cases hy : y.serial = z
    · have hyx : ¬y.serial = x := fun hx => h (hx.symm.trans hy)
      simp only [dropSerial, List.filter_cons, hy, List.find?_cons, ne_eq, not_true, decide_false] at ih ⊢
      rw [hy] at hyx
      simpa [hyx] using ih
    · simp only [dropSerial, List.filter_cons, hy, List.find?_cons, ne_eq, not_false_eq_true, decide_true, if_true] at ih ⊢
      rw [ih]

theorem find_place_same (e : Entry) (es : List Entry)
    (h : es.find? (fun x => decide (x.serial = e.serial)) = none) :
    (placeEntry e es).find? (fun x => decide (x.serial = e.serial)) = some e := by
  induction es with
  | nil => simp [placeEntry]
  | cons y ys ih =>
    by_cases hy : y.serial = e.serial
    · simp [hy] at h
    · simp only [List.find?_cons, hy, decide_false] at h
      by_cases hb : e.before y = true
      · simp [placeEntry, hb]
      · simp [placeEntry, hb, hy, ih h]

theorem find_place_other (e : Entry) (es : List Entry) (x : Serial) (h : x ≠ e.serial) :
    (placeEntry e es).find? (fun y => decide (y.serial = x)) = es.find? fun y => decide (y.serial = x) := by
  have hex : ¬e.serial = x := fun hx => h hx.symm
  induction es with
  | nil => simp [placeEntry, hex]
  | cons y ys ih =>
    by_cases hb : e.before y = true
    · simp [placeEntry, hb, hex]
    · simp only [placeEntry, hb, List.find?_cons, Bool.false_eq_true, if_false]
      rw [ih]

theorem mem_place (e y : Entry) (es : List Entry) : y ∈ placeEntry e es ↔ y = e ∨ y ∈ es := by
  induction es with
  | nil => simp [placeEntry]
  | cons z zs ih =>
    by_cases hb : e.before z = true
    · simp [placeEntry, hb]
    · simp only [placeEntry, hb, List.mem_cons, Bool.false_eq_true, if_false, ih]
      constructor
      · rintro (h | h | h) <;> simp [h]
      · rintro (h | h | h) <;> simp [h]

theorem length_place (e : Entry) (es : List Entry) : (placeEntry e es).length = es.length + 1 := by
  induction es with
  | nil => rfl
  | cons z zs ih => by_cases hb : e.before z = true <;> simp [placeEntry, hb, ih]

theorem length_replace (e : Entry) (es : List Entry) : (replaceEntry e es).length = es.length := by
  simp [replaceEntry]

theorem length_drop_le (x : Serial) (es : List Entry) : (dropSerial x es).length ≤ es.length :=
  List.length_filter_le _ _

theorem mem_drop (x : Serial) (y : Entry) (es : List Entry) : y ∈ dropSerial x es ↔ y ∈ es ∧ y.serial ≠ x := by
  simp [dropSerial]

/-! ### The order (R66) -/

theorem before_iff (a b : Entry) : a.before b = true ↔ Precedes a b := by
  unfold Entry.before Precedes
  cases a.depth <;> cases b.depth <;> simp

theorem precedes_trans (a b c : Entry) (h1 : Precedes a b) (h2 : Precedes b c) : Precedes a c := by
  unfold Precedes at *
  cases ha : a.depth <;> cases hb : b.depth <;> cases hc : c.depth <;> simp only [ha, hb, hc] at h1 h2 ⊢ <;> omega

theorem precedes_total (a b : Entry) (h : a.serial ≠ b.serial) : Precedes a b ∨ Precedes b a := by
  have hn : a.serial.toNat ≠ b.serial.toNat := fun he => h (BitVec.eq_of_toNat_eq he)
  unfold Precedes
  cases ha : a.depth <;> cases hb : b.depth <;> simp only [] <;> first | omega | simp

/-- Placing an entry of a new serial keeps the order. -/
theorem place_ordered (e : Entry) (es : List Entry) (h : es.Pairwise Precedes) (hn : ∀ y ∈ es, y.serial ≠ e.serial) :
    (placeEntry e es).Pairwise Precedes := by
  induction es with
  | nil => simp [placeEntry]
  | cons z zs ih =>
    rw [List.pairwise_cons] at h
    by_cases hb : e.before z = true
    · have hz := (before_iff e z).1 hb
      simp only [placeEntry, hb, if_true, List.pairwise_cons, List.mem_cons]
      refine ⟨?_, h⟩
      rintro y (rfl | hy)
      · exact hz
      · exact precedes_trans _ _ _ hz (h.1 y hy)
    · simp only [placeEntry, hb, Bool.false_eq_true, if_false, List.pairwise_cons]
      refine ⟨fun y hy => ?_, ih h.2 fun y hy => hn y (List.mem_cons_of_mem _ hy)⟩
      rcases (mem_place e y zs).1 hy with rfl | hy
      · exact (precedes_total z y (hn z List.mem_cons_self)).resolve_right fun hp => hb ((before_iff _ _).2 hp)
      · exact h.1 y hy

/-- Placing an entry of a new serial keeps one entry for a serial. -/
theorem place_serials (e : Entry) (es : List Entry) (h : es.Pairwise fun a b => a.serial ≠ b.serial)
    (hn : ∀ y ∈ es, y.serial ≠ e.serial) : (placeEntry e es).Pairwise fun a b => a.serial ≠ b.serial := by
  induction es with
  | nil => simp [placeEntry]
  | cons z zs ih =>
    rw [List.pairwise_cons] at h
    by_cases hb : e.before z = true
    · simp only [placeEntry, hb, if_true, List.pairwise_cons]
      exact ⟨fun y hy => (hn y hy).symm, h⟩
    · simp only [placeEntry, hb, Bool.false_eq_true, if_false, List.pairwise_cons]
      refine ⟨fun y hy => ?_, ih h.2 fun y hy => hn y (List.mem_cons_of_mem _ hy)⟩
      rcases (mem_place e y zs).1 hy with rfl | hy
      · exact hn z List.mem_cons_self
      · exact h.1 y hy

/-! ### Requests on a change of conflict (R80, R82) -/

/-- The conflict is that of the entries, and a change between shown and not shown is a routine request. -/
theorem evaluateConflict_eq (s : State) : evaluateConflict s =
    { s with
      roster := { s.roster with conflict := conflictOf s.settings.address s.roster.entries }
      sender := if (conflictOf s.settings.address s.roster.entries).isSome = s.roster.conflict.isSome then s.sender
        else { s.sender with presence := presenceAfterRoutine s }
      sched := if (conflictOf s.settings.address s.roster.entries).isSome = s.roster.conflict.isSome then s.sched
        else schedAfterRoutine s } := by
  simp only [evaluateConflict]
  by_cases h : (conflictOf s.settings.address s.roster.entries).isSome = s.roster.conflict.isSome
  · simp [h]
  · simp only [h, if_false, routineRequest_eq]; rfl

/-- The evaluation makes a request exactly on a change between shown and not shown. -/
theorem evaluateConflict_asked (s : State) : AskedOnConflictChange s (evaluateConflict s) := by
  rw [evaluateConflict_eq]
  unfold AskedOnConflictChange
  dsimp only
  split <;> exact ⟨rfl, rfl⟩

/-- Whether a request was made is read off the roster, the sender and the scheduler. -/
theorem asked_congr (s t u : State) (h : AskedOnConflictChange s t) (hr : u.roster = t.roster) (hs : u.sender = t.sender)
    (hd : u.sched = t.sched) : AskedOnConflictChange s u := by
  unfold AskedOnConflictChange at *
  rwa [hr, hs, hd]

/-! ### The entry that gives way (R77) -/

/-- Whether entry `e` gives way rather than entry `b`. -/
def GivesWayBefore (e b : Entry) : Prop := b.age < e.age ∨ (b.age = e.age ∧ e.serial.toNat < b.serial.toNat)

theorem oldestStale_aux (es : List Entry) (best : Option Entry)
    (hb : ∀ b, best = some b → b.state = .stale) :
    let r := es.foldl (fun best e =>
      if e.state = .stale then
        match best with
        | none => some e
        | some b => if b.age < e.age ∨ (b.age = e.age ∧ e.serial.toNat < b.serial.toNat) then some e else best
      else best) best
    (∀ o, r = some o → o.state = .stale ∧ (o ∈ es ∨ best = some o) ∧
      (∀ x, (x ∈ es ∧ x.state = .stale) ∨ best = some x → ¬GivesWayBefore x o)) ∧
    (r = none → best = none ∧ ∀ x ∈ es, x.state ≠ .stale) := by
  induction es generalizing best with
  | nil =>
    refine ⟨fun o ho => ⟨hb o ho, .inr ho, ?_⟩, fun h => ⟨h, by simp⟩⟩
    rintro x (⟨hx, _⟩ | hx)
    · simp at hx
    · simp only [List.foldl_nil] at ho
      rw [ho] at hx; cases hx
      unfold GivesWayBefore; omega
  | cons e es ih =>
    simp only [List.foldl_cons]
    by_cases he : e.state = .stale
    · cases best with
      | none =>
        simp only [he, if_true]
        obtain ⟨h1, h2⟩ := ih (some e) (by rintro b ⟨⟩; exact he)
        refine ⟨fun o ho => ?_, fun h => absurd (h2 h).1 (by simp)⟩
        obtain ⟨a, b, c⟩ := h1 o ho
        refine ⟨a, .inl ?_, ?_⟩
        · rcases b with b | b
          · exact List.mem_cons_of_mem _ b
          · cases b; exact List.mem_cons_self
        · rintro x (⟨hx, hs⟩ | hx)
          · rcases List.mem_cons.1 hx with rfl | hx
            · exact c _ (.inr rfl)
            · exact c _ (.inl ⟨hx, hs⟩)
          · simp at hx
      | some b0 =>
        simp only [he, if_true]
        by_cases hw : b0.age < e.age ∨ (b0.age = e.age ∧ e.serial.toNat < b0.serial.toNat)
        · simp only [hw, if_true]
          obtain ⟨h1, h2⟩ := ih (some e) (by rintro b ⟨⟩; exact he)
          refine ⟨fun o ho => ?_, fun h => absurd (h2 h).1 (by simp)⟩
          obtain ⟨a, b, c⟩ := h1 o ho
          refine ⟨a, ?_, ?_⟩
          · rcases b with b | b
            · exact .inl (List.mem_cons_of_mem _ b)
            · cases b; exact .inl List.mem_cons_self
          · have ce := c e (.inr rfl)
            rintro x (⟨hx, hs⟩ | hx)
            · rcases List.mem_cons.1 hx with rfl | hx
              · exact ce
              · exact c _ (.inl ⟨hx, hs⟩)
            · cases hx
              unfold GivesWayBefore at ce ⊢; omega
        · simp only [hw, if_false]
          obtain ⟨h1, h2⟩ := ih (some b0) hb
          refine ⟨fun o ho => ?_, fun h => absurd (h2 h).1 (by simp)⟩
          obtain ⟨a, b, c⟩ := h1 o ho
          refine ⟨a, ?_, ?_⟩
          · rcases b with b | b
            · exact .inl (List.mem_cons_of_mem _ b)
            · exact .inr b
          · have cb := c b0 (.inr rfl)
            rintro x (⟨hx, hs⟩ | hx)
            · rcases List.mem_cons.1 hx with rfl | hx
              · unfold GivesWayBefore at cb ⊢; omega
              · exact c _ (.inl ⟨hx, hs⟩)
            · cases hx; exact cb
    · simp only [he, if_false]
      obtain ⟨h1, h2⟩ := ih best hb
      refine ⟨fun o ho => ?_, fun h => ⟨(h2 h).1, ?_⟩⟩
      · obtain ⟨a, b, c⟩ := h1 o ho
        refine ⟨a, b.imp_left (List.mem_cons_of_mem _), ?_⟩
        rintro x (⟨hx, hs⟩ | hx)
        · rcases List.mem_cons.1 hx with rfl | hx
          · exact absurd hs he
          · exact c _ (.inl ⟨hx, hs⟩)
        · exact c _ (.inr hx)
      · intro x hx
        rcases List.mem_cons.1 hx with rfl | hx
        · exact he
        · exact (h2 h).2 x hx

/-- The entry that gives way is STALE, and no STALE entry gives way before it. -/
theorem oldestStale_some (es : List Entry) (o : Entry) (h : oldestStale es = some o) :
    o ∈ es ∧ o.state = .stale ∧ ∀ x ∈ es, x.state = .stale → ¬GivesWayBefore x o := by
  obtain ⟨a, b, c⟩ := (oldestStale_aux es none (by simp)).1 o h
  exact ⟨b.resolve_right (by simp), a, fun x hx hs => c x (.inl ⟨hx, hs⟩)⟩

/-- None gives way exactly when none is STALE. -/
theorem oldestStale_none (es : List Entry) : oldestStale es = none ↔ ∀ x ∈ es, x.state ≠ .stale := by
  constructor
  · exact fun h => ((oldestStale_aux es none (by simp)).2 h).2
  · intro h
    cases ho : oldestStale es with
    | none => rfl
    | some o =>
      obtain ⟨a, b, _⟩ := oldestStale_some es o ho
      exact absurd b (h o a)

end Sys2Proof.Machine
end

