-- ==== Sys2Proof/Laws/Delivery.lean ====
section
/-! SUPPORT. What the reception of a frame and the delivery of its message can do, said once, in the terms of Safety. -/

namespace Sys2Proof.Machine

variable (s : State)

/-- The journal after a write (R147). -/
theorem write_eq (j : Journal) (e : JournalEntry) : j.write e = journalAfter j e := by
  unfold Journal.write journalAfter Config.journalCapacity
  by_cases h : j.entries.length < 64
  · simp [h, Nat.not_le.2 h]
  · simp [h, Nat.not_lt.1 h]

/-- What a PRESENCE that announces a tail does to the sounding unit (R44). -/
theorem hearTail_eq (x : Serial) (p : PresenceIn) :
    hearTail x p s = { s with sounding := soundingAfterMessage s s.now x (.presence p) } := by
  simp only [hearTail, observe_eq, soundingAfterMessage]
  by_cases hsf : p.soundFollows = true
  · have hb : decide (s.supply.band ≠ .normal) = !decide (s.supply.band = .normal) := by cases s.supply.band <;> rfl
    by_cases hh : s.isolator.state = .closed ∧ s.sounding.obs = none <;>
      simp [hsf, hh, newObservation, Config.quietCells, Config.tailPeriod, Config.tailTime, Nat.add_assoc]
  · simp [hsf]

/-- The oldest frame that an idle ended is the one decided with a hearing exactly when it is at hand (R5, R16). -/
theorem endedFrame_iff (h : Heard) (f : RxFrame) : s.endedFrame h = some f ↔ EndedFrameAtHand s s.now f h := by
  unfold State.endedFrame EndedFrameAtHand
  cases s.rx.awaiting with
  | nil => simp
  | cons g rest =>
    simp only [List.head?_cons, Option.filter_eq_some_iff, Option.some.injEq, Bool.and_eq_true, Bool.not_eq_true',
      decide_eq_true_eq, List.cons.injEq, exists_and_left, exists_eq', and_true]

theorem endedFrame_none (h : Heard) : s.endedFrame h = none ↔ ∀ f, ¬EndedFrameAtHand s s.now f h := by
  rw [Option.eq_none_iff_forall_not_mem]
  exact forall_congr' fun f => not_congr (endedFrame_iff s h f)

/-- A frame with LENGTH `n` has 44 + 8 × (n + 2) cells of 500 us (R4, R6). -/
theorem frameTime_eq (n : Nat) : frameTime n = 500 * (44 + 8 * (n + 2)) := by
  unfold frameTime frameCellCount
  generalize 44 + 8 * (n + 2) = x
  show 2 * x * 250 = 500 * x
  omega

/-- The frame under way is decided with a hearing at the end of its CHECK cell, if it announces a tail (R6, R16, R17). -/
theorem tailFrame_of_atHand (h : Heard) (f : RxFrame) (hf : TailFrameAtHand s s.now f h) : s.tailFrame h = some f := by
  obtain ⟨hu, ho, _, g, via, d, hd, ht, hc⟩ := hf
  rw [← frameTime_eq] at hc
  unfold State.tailFrame
  rw [hu, Option.filter_some, hd, ho]
  simp only [Decision.announcesTail, ht, RxFrame.checkEnd, hc]
  rfl

/-- The frame at hand, heard with an outcome that the command names, is taken in. -/
theorem receiveIf_atHand (h : Heard) (f : RxFrame) (wanted : Reception → Bool) (hf : FrameAtHand s s.now f h)
    (hw : wanted (receptionOf s.settings.site f h) = true) :
    receiveIf wanted h s = takeReception (receptionOf s.settings.site f h) { s with rx := withoutFrame s.rx f h } := by
  rcases hf with he | ht
  · simp [receiveIf, (endedFrame_iff s h f).2 he, takeIf, hw, dropEnded, withoutFrame, he.2.1]
  · have hn := (endedFrame_none s h).2 ht.2.2.1
    obtain ⟨_, _, _, g, via, d, hd, hg, _⟩ := id ht
    simp [receiveIf, hn, tailFrame_of_atHand s h f ht, takeIf, hw, dropTailFrame, withoutFrame, hd, Decision.announcesTail, hg,
      receiverAfterSink]

theorem withoutFrame_tallies (x : Receiver) (f : RxFrame) (h : Heard) :
    (withoutFrame x f h).good = x.good ∧ (withoutFrame x f h).damaged = x.damaged ∧
    (withoutFrame x f h).foreign = x.foreign ∧ (withoutFrame x f h).lastDamage = x.lastDamage ∧
    (withoutFrame x f h).idle = x.idle := by
  unfold withoutFrame receiverAfterSink; split <;> simp

/-- The station as a message is delivered: the frame has left the receiver and is counted good (R18). -/
def counted (t : Nat) (f : RxFrame) (h : Heard) (d : Bool) : State :=
  { s with now := max s.now t, rx := receiverAfterGood s.rx f h d }

theorem countGood_eq (t : Nat) (f : RxFrame) (h : Heard) (d : Bool) :
    countGood d { s.advance t with rx := withoutFrame s.rx f h } = counted s t f h d := by
  obtain ⟨h1, _, _, h2, _⟩ := withoutFrame_tallies s.rx f h
  simp [countGood, counted, State.advance, receiverAfterGood, countUp, Config.tallyTop, h1, h2]

/-- The command of a received message delivers it. -/
theorem exec_commandOf (t : Nat) (h : Heard) (f : RxFrame) (x : Serial) (via : Via) (d : Bool) (m : Message)
    (hr : s.supply.phase = .running) (hf : FrameAtHand s (max s.now t) f h)
    (ho : receptionOf s.settings.site f h = .delivered x via d m) :
    exec (commandOf m t h) s = done (deliver x via m (counted s t f h d)) := by
  have key : ∀ wanted : Reception → Bool, wanted (.delivered x via d m) = true →
      whenRunning (receiveIf wanted h) (s.advance t) = deliver x via m (counted s t f h d) := by
    intro wanted hw
    rw [whenRunning_running (s.advance t) _ hr,
      receiveIf_atHand (s.advance t) h f wanted hf (by simpa [ho] using hw)]
    simp only [State.advance_settings, ho, takeReception]
    exact congrArg _ (countGood_eq s t f h d)
  cases m <;> simp only [commandOf, exec, execPresence, execTest, execQuery, execQuiet, execReply] <;> rw [key _ rfl]

/-- The owners of a message from a peer (R38). -/
theorem deliver_peer (x : Serial) (via : Via) (m : Message) (h : x ≠ s.settings.serial) : deliver x via m s =
    match m with
    | .presence p => hearTail x p (takeIn x via m s)
    | .test address kind number typeTested =>
      writeJournal (peerEntry s x address kind number typeTested) (takeIn x via m s)
    | .query selector item index => deliverQuery x selector item index s
    | .quiet duration => takeQuiet duration s
    | .reply => takeIn x via m s := by
  cases m <;> simp only [deliver, h, if_false]

/-- What a peer's PRESENCE, TEST or REPLY does beside the roster's part. -/
theorem deliver_roster (x : Serial) (via : Via) (m : Message) (h : x ≠ s.settings.serial) (hk : RosterKind m) :
    deliver x via m s = { takeIn x via m s with
      journal := journalAfterMessage s x m
      sounding := soundingAfterMessage s s.now x m } := by
  rw [deliver_peer _ _ _ _ h]
  cases m with
  | presence p => simp [hearTail_eq, soundingAfterMessage, journalAfterMessage]
  | test a k n y => simp [writeJournal, write_eq, soundingAfterMessage, journalAfterMessage, peerEntry]
  | reply =>
    generalize hy : takeIn x via Message.reply s = y
    have := takeIn_frame s x via Message.reply
    rw [hy] at this
    cases y
    simp_all [soundingAfterMessage, journalAfterMessage]
  | query _ _ _ => exact hk.elim
  | quiet _ => exact hk.elim

/-- What the roster makes of a message from a sender with an entry or with room (R65, R67, R71): entries in which that
sender's is `old` with the message applied, apart from its relation, and every other serial finds what it found. -/
theorem takeIn_known (x : Serial) (via : Via) (m : Message) (old : Entry)
    (h : s.roster.find x = some old ∨
      (s.roster.find x = none ∧ s.roster.entries.length < 250 ∧ old = blankEntry x via)) :
    ∃ es rel, takeIn x via m s = evaluateConflict (s.withEntries es) ∧
      es.find? (fun e => decide (e.serial = x)) =
        some { applyMessage m { old with age := 0, state := .live, via := via } with relation := rel } ∧
      ∀ y, y ≠ x → es.find? (fun e => decide (e.serial = y)) = s.roster.find y := by
  have hs : ∀ m e, (applyMessage m e).serial = e.serial := by intro m e; cases m <;> rfl
  rcases h with h | ⟨h, hl, rfl⟩
  · have hser := find_serial _ _ _ h
    have hs' : (refreshed via m old).serial = x := by rw [← hser]; exact hs _ _
    simp only [takeIn, h, refreshEntry]
    by_cases hd : (refreshed via m old).depth = old.depth
    · simp only [hd, if_true]
      refine ⟨_, (refreshed via m old).relation, rfl, ?_, fun y hy => find_replace_other _ _ _ (by rwa [hs'])⟩
      have := find_replace_same (refreshed via m old) s.roster.entries old (by rw [hs']; exact h)
      rw [hs'] at this
      exact this
    · simp only [hd, if_false]
      have hc : (classified s (refreshed via m old)).serial = x := hs'
      refine ⟨_, (classified s (refreshed via m old)).relation, rfl, ?_, fun y hy => ?_⟩
      · have := find_place_same (classified s (refreshed via m old)) (dropSerial old.serial s.roster.entries)
          (by rw [hc, hser]; exact find_drop_same _ _)
        rw [hc] at this
        exact this
      · rw [find_place_other _ _ _ (by rwa [hc]), find_drop_other _ _ _ (by rwa [hser])]
        rfl
  · simp only [takeIn, h, takeNewcomer, Config.rosterCapacity, hl, if_true, enterAmong]
    have hc : (classified s (applyMessage m (blankEntry x via))).serial = x := by
      show (applyMessage m (blankEntry x via)).serial = x; rw [hs]; rfl
    refine ⟨_, (classified s (applyMessage m (blankEntry x via))).relation, rfl, ?_, fun y hy => ?_⟩
    · have := find_place_same (classified s (applyMessage m (blankEntry x via))) s.roster.entries (by rw [hc]; exact h)
      rw [hc] at this
      exact this
    · rw [find_place_other _ _ _ (by rwa [hc])]
      rfl

end Sys2Proof.Machine
end

