-- ==== Sys2Proof/Laws/Head.lean ====
section
/-! SUPPORT. What the operations of the head's alarm line can do, and what a flip takes back of an own merge, said once. -/

namespace Sys2Proof.Machine

variable (s : State)

/-- The alarm line changes where the head has its supply, the line has the other level and the filter has passed (R125). -/
theorem alarmTurnsTo_iff (level : Bool) : s.alarmTurnsTo level = true ↔
    s.head.supply = true ∧ s.head.alarm = !level ∧ AlarmFiltered s s.now := by
  cases level <;> simp [State.alarmTurnsTo, AlarmFiltered, Config.alarmFilter, and_assoc]

/-- Where the alarm line does not change, the head has no supply, the line has the level, or the filter has not passed. -/
theorem alarmTurnsTo_false_iff (level : Bool) : s.alarmTurnsTo level = false ↔
    s.head.supply = false ∨ s.head.alarm = level ∨ ¬AlarmFiltered s s.now := by
  rw [← Bool.not_eq_true, alarmTurnsTo_iff]
  cases s.head.supply <;> cases s.head.alarm <;> cases level <;> simp

/-- An assertion that is not seen changes nothing (R125). -/
theorem assertAlarm_unseen (h : s.alarmTurnsTo true = false) : assertAlarm s = s := by simp [assertAlarm, h]

/-- A release that is not seen changes nothing (R125). -/
theorem releaseAlarm_unseen (h : s.alarmTurnsTo false = false) : releaseAlarm s = s := by simp [releaseAlarm, h]

/-- The supply switched on, in the terms of Safety (R124, R125). -/
theorem supplied_eq (h : Head) (now : Nat) : h.supplied now = headSupplied h now := rfl

/-- A flip takes back nothing but SENSE_FAULT, to what it was before an own merge of that moment (R43, R85). -/
theorem dropOwnMerge_eq : dropOwnMerge s.port.orientation s =
    { s with sounding := { s.sounding with senseFault := faultWithoutMerge s s.now } } := by
  unfold dropOwnMerge faultWithoutMerge
  cases s.sounding.ownMerge with
  | none => rfl
  | some m => by_cases h : m.decidedAt = s.now ∧ m.noted = s.port.orientation <;> simp [h]

end Sys2Proof.Machine
end

