-- ==== Sys2Proof/WellFormed.lean ====
section
/-! DEFINITION. The well-formed commands: the checks on operands that the manual's own ranges give. An ill-formed command
still has a meaning (exec is total): the condition of its rule does not hold, and the station stays as it is. -/

namespace Sys2Proof

/-- Both channels are judged over the same half-cells (R2, R3). -/
def Heard.wellFormed (h : Heard) : Bool := h.dips.length == h.through.length

/-- The half-cells of the longest frame: 44 cells, LENGTH, 48 field bytes, CHECK (R6). -/
def longestFrame : Nat := 2 * Machine.frameCellCount Config.maxLength

/-- A command whose operands lie in the ranges of its row. -/
def Instr.wellFormed : Instr → Bool
  | .lineIdle _ heard => match heard.frame with
    | some h => h.wellFormed
    | none => true
  | .contentionLost cell _ => decide (1 ≤ cell ∧ cell ≤ 43)
  | .sendMismatch half _ => decide (half < longestFrame)
  | .presence _ h => h.wellFormed
  | .test _ h => h.wellFormed
  | .query _ h => h.wellFormed
  | .quiet _ h => h.wellFormed
  | .reply _ h => h.wellFormed
  | .frameDiscarded _ h => h.wellFormed
  | .selfTest h _ => h.wellFormed
  | .sinkLockout drawn => decide (drawn.since + Config.sinkLimit < drawn.upTo)
  | .bandLow _ mV => decide (Config.criticalBelow ≤ mV ∧ mV < Config.lowBelow)
  | .bandNormal _ mV => decide (Config.normalFrom ≤ mV)
  | .bandCritical _ mV => decide (mV < Config.criticalBelow)
  | .startBegin _ mV _ => decide (Config.startFrom ≤ mV)
  | .digit _ w => decide (Machine.irKey w ≤ 9)
  | .enter _ w => Machine.irKey w == 10
  | .cancel _ w => Machine.irKey w == 11
  | .sound _ w => Machine.irKey w == 12
  | .clear _ w => Machine.irKey w == 13
  | .restart _ w => Machine.irKey w == 14
  | .siteClear _ w => Machine.irKey w == 15
  | .startLeadingEdge _ _ => true
  | .messageSent => true
  | .ownTailStart => true
  | .tailEnd _ => true
  | .secondTick _ _ => true
  | .orientationChange _ _ => true
  | .entryStale _ => true
  | .entryRemoved _ => true
  | .presenceTimerExpiry => true
  | .quietEnd => true
  | .alarmAsserted _ => true
  | .alarmReleased _ => true
  | .settlingEnd => true
  | .confirmedAlarm => true
  | .resettingEnd => true
  | .recoveringEnd => true
  | .testedLatchExpiry => true
  | .shortCriterion _ _ _ _ => true
  | .openWaitExpiry => true
  | .trialExpiry => true
  | .clockSettle => true
  | .loadSettings => true
  | .entryTimerExpiry => true
  | .settingsWrite _ _ _ => true
  | .irFeedbackEnd => true
  | .identifyTimerExpiry => true
  | .lastSerialCellSent => true
  | .irWordDiscarded _ _ => true

end Sys2Proof
end

