-- ==== Sys2Proof/Tests/Slice0.lean ====
section
/-! SUPPORT. Tests of single operations and single steps against the manual's tables and worked sequences, the refusals of the
well-formedness checks, and for each statement with hypotheses a witness that they can be met. Expected values are the
manual's own, or worked from its rules by hand; each test names its source. -/

namespace Sys2Proof.Tests

open Sys2Proof.Machine

set_option Elab.async false

/-! ### Helpers -/

/-- The state a command answers. -/
def after (c : Instr) (s : State) : Option State :=
  match exec c s with
  | .next u => some u
  | .fault _ => none
  | .refused _ => none

/-- Station K, its peer P, W, which bears K's address, and a tool T, as in the worked sequences. -/
def serialK : Serial := 0x3A0051D0E7
def serialP : Serial := 0x3A00417C22
def serialW : Serial := 0x3A00603B71
def serialT : Serial := 0x7F00020A91

/-- The bits of a byte, most significant first. -/
def byteBits (n : Nat) : List Bool := [7, 6, 5, 4, 3, 2, 1, 0].map n.testBit

/-- The half-cells of a frame, written out by the rules of R4 and R6 from its class, serial, field bytes and CHECK. -/
def wire (cls serial : Nat) (fields : List Nat) (check : Nat) : List Bool :=
  ((true :: [2, 1, 0].map cls.testBit) ++ (List.range 40).map fun k => serial.testBit (39 - k)).flatMap (fun b => [b, b])
    ++ ((fields.length :: fields ++ [check]).flatMap byteBits).flatMap fun b => [b, !b]

/-- What the channels sense of half-cells with a dip and a change of the through-current in each half with sink. -/
def sensed (dip change : Int) (halves : List Bool) : Heard where
  dips := halves.map fun b => if b then dip else 0
  through := halves.map fun b => if b then change else 0

/-- Readings of a tail: deviations from the references by period. -/
def readings (v i : Nat → Int) : TailReadings where
  vReference := 30000
  v := ⟨((List.range 64).map fun k => 30000 + v k).toArray, by simp⟩
  iReference := 40
  i := ⟨((List.range 64).map fun k => 40 + i k).toArray, by simp⟩

/-- The group dips of "Worked case: one observation of a peer" (03). -/
def workedDips : List Int :=
  [2210, 2221, 2214, 2219, 2216, 2218, 2212, 2220, 2215, 2217, 2213, 2222, 2216, 2219, 2214, 2214]

/-- V deviations with given group dips. -/
def withDips (dips : List Int) (k : Nat) : Int :=
  match k % 4 with
  | 1 => -1100
  | 2 => 1100 - dips.getD (k / 4) 0
  | _ => 0

/-- A change of the through-current in each on period. -/
def inOnPeriods (x : Int) (k : Nat) : Int := if k % 4 = 1 ∨ k % 4 = 2 then x else 0

/-- A frame that began while the isolator was CLOSED under FEED_A. -/
def frameNow : RxFrame := { startedAt := 409910000, orientation := .feedA, mutedAtStart := false, crossings := [] }

/-- P's entry at K before the worked observation (03), with a depth beyond K's. -/
def entryP : Entry where
  serial := serialP
  address := 17
  state := .live
  via := .both
  age := 29
  interval := 30
  depth := some 3100
  uptime := some 20
  headState := .ready
  testState := .notTested
  shared := some 2790
  through := some 985
  quality := 3
  relation := .downstream
  restarts := 14

/-- Station K, running, address 23, site 0x2C41, own depth 2801 with quality 6. -/
def stationK : State where
  now := 410000000
  port := { orientation := .feedA, candidate := .feedA }
  rx := { idle := true, awaiting := [frameNow], good := 118, damaged := 3, lastDamage := .iDamaged }
  sounding := { ownDepth := some 2801, ownQuality := 6 }
  roster := { entries := [entryP] }
  sched := { timer := some 420000000, offset := 2300000 }
  head := {
    supply := true, identity := .head .optical, previous := some (.head .optical), state := .ready
    headType := some .optical }
  supply := { band := .normal, phase := .running, uptime := 410, tickAt := some 411000000 }
  settings := {
    factory := { serial := serialK, trim := 10120 }, serial := serialK, trim := 10120, site := 0x2C41, address := 23 }
  indicator := { shown := .normal, since := 400000000 }

/-- A station with that frame still under way. -/
def listening (s : State) : State :=
  { s with rx := { s.rx with idle := false, underWay := some frameNow, awaiting := [] } }

/-- K with a message of a kind on the line, sent from the moment 410 s. -/
def sending (k : OutKind) (state : SenderState) (aborts : Nat) (tail : Bool) (fields : List Byte) : State :=
  { stationK with
    rx := { stationK.rx with awaiting := [] }
    sender := { ({ state := state
                   outgoing := some { kind := k, fields := fields, soundFollows := tail, startedAt := 410000000 } }
                  : LineSender).setSlot k { filled := true, aborts := aborts } with tailAt := none } }

/-- K while an observation is under way. -/
def observing (peer : Option Serial) (trim : Nat) : State :=
  { stationK with sounding := { stationK.sounding with obs := some {
      peer := peer, trim := trim, noted := .feedA, low := false, flipped := false
      tailFrom := 410091000, firstSample := 410092000, endsAt := 410219000 } } }

/-- A tail in which nothing is sensed. -/
def silentTail : TailReadings := readings (fun _ => 0) fun _ => 0

/-- K with another head. -/
def withHead (h : Head) : State := { stationK with head := h }

/-- K in its own tail, which it observes; `idle` says that an idle has been judged since the tail began. -/
def inOwnTail (idle : Bool) : State :=
  { observing none 10120 with
    rx := { stationK.rx with idle := idle, idleInTail := idle, awaiting := [] }
    sender := { state := .tail, tailAt := some 410219000 } }

/-- K in its own tail and, an idle having been judged in it, observing a peer's tail that ends at a given moment. -/
def inTwoTails (endsAt : Nat) : State :=
  { inOwnTail true with sounding := { stationK.sounding with obs := some {
      peer := some serialP, trim := 9850, noted := .feedA, low := false, flipped := false
      tailFrom := endsAt - 128000, firstSample := endsAt - 127000, endsAt := endsAt } } }

/-! ### The well-formedness checks refuse -/

theorem test_wellFormed_lineIdle : 
    (Instr.lineIdle 0 { frame := some { dips := [0], through := [] }, tail := silentTail }).wellFormed = false := by decide
theorem test_wellFormed_contentionLost :
    (Instr.contentionLost 0 9).wellFormed = false ∧ (Instr.contentionLost 43 9).wellFormed = true ∧
    (Instr.contentionLost 44 9).wellFormed = false := by decide
theorem test_wellFormed_sendMismatch :
    (Instr.sendMismatch 887 ⟨0, 0⟩).wellFormed = true ∧ (Instr.sendMismatch 888 ⟨0, 0⟩).wellFormed = false := by decide
theorem test_wellFormed_presence : (Instr.presence 0 { dips := [0], through := [] }).wellFormed = false := by decide
theorem test_wellFormed_test : (Instr.test 0 { dips := [], through := [0] }).wellFormed = false := by decide
theorem test_wellFormed_query : (Instr.query 0 { dips := [0], through := [] }).wellFormed = false := by decide
theorem test_wellFormed_quiet : (Instr.quiet 0 { dips := [0], through := [] }).wellFormed = false := by decide
theorem test_wellFormed_reply : (Instr.reply 0 { dips := [0], through := [] }).wellFormed = false := by decide
theorem test_wellFormed_frameDiscarded :
    (Instr.frameDiscarded 0 { dips := [0], through := [] }).wellFormed = false := by decide
theorem test_wellFormed_selfTest :
    (Instr.selfTest { dips := [0], through := [] } silentTail).wellFormed = false := by decide
theorem test_wellFormed_sinkLockout :
    (Instr.sinkLockout { since := 410000000, upTo := 410050000 }).wellFormed = false := by decide
theorem test_wellFormed_bandLow :
    (Instr.bandLow 0 13999).wellFormed = false ∧ (Instr.bandLow 0 17000).wellFormed = false := by decide
theorem test_wellFormed_bandNormal : (Instr.bandNormal 0 17499).wellFormed = false := by decide
theorem test_wellFormed_bandCritical : (Instr.bandCritical 0 14000).wellFormed = false := by decide
theorem test_wellFormed_startBegin : (Instr.startBegin 0 14999 true).wellFormed = false := by decide
theorem test_wellFormed_digit : (Instr.digit 0 0x2C410A98).wellFormed = false := by decide
theorem test_wellFormed_enter : (Instr.enter 0 0x2C410B99).wellFormed = false := by decide
theorem test_wellFormed_cancel : (Instr.cancel 0 0x2C410A98).wellFormed = false := by decide
theorem test_wellFormed_sound : (Instr.sound 0 0x2C410A98).wellFormed = false := by decide
theorem test_wellFormed_clear : (Instr.clear 0 0x2C410A98).wellFormed = false := by decide
theorem test_wellFormed_restart : (Instr.restart 0 0x2C410A98).wellFormed = false := by decide
theorem test_wellFormed_siteClear : (Instr.siteClear 0 0x2C410A98).wellFormed = false := by decide

/-! ### Tables and arithmetic of the manual -/

/-- The table of boundaries after R92. -/
theorem test_relation_boundaries :
    relationOfFigures 2000 2400 2000 250 = .inconsistent ∧ relationOfFigures 2000 2400 2000 251 = .split ∧
    relationOfFigures 2000 2400 2000 749 = .split ∧ relationOfFigures 2000 2400 2000 750 = .downstream ∧
    relationOfFigures 2000 2400 2029 750 = .downstream ∧ relationOfFigures 2000 2400 2030 750 = .inconsistent ∧
    relationOfFigures 2000 1975 2000 900 = .downstream ∧ relationOfFigures 2000 1970 2000 900 = .inconsistent ∧
    relationOfFigures 2000 1800 1775 0 = .upstream ∧ relationOfFigures 2000 1800 1774 0 = .branched ∧
    relationOfFigures 2000 2025 2025 0 = .upstream ∧ relationOfFigures 2000 2026 2026 0 = .inconsistent := by decide

/-- The divisions of the worked cases of 03: of a peer, of the own tail, of station M. -/
theorem test_worked_samples :
    depthSample 35460 9850 = 2813 ∧ fractionSample 31200 9850 = 990 ∧ depthSample 36100 10120 = 2787 ∧
    fractionSample 180 10120 = 6 ∧ depthSample 18560 10000 = 1450 ∧ fractionSample 30000 10000 = 938 ∧
    fractionSample (-31200) 9850 = 0 := by decide

/-- The offset of K's serial is 23 × 100 ms (R111). -/
theorem test_offset : offsetOf serialK = 2300000 := by decide

/-- The check byte of the record of site 0x2C41 and address 24 (R182). -/
theorem test_recordCheck : recordCheck 0x2C41 24 = 0x8A := by decide

/-- The CHECK of a frame by hand from R22's polynomial: K's QUIET of 60 s for site 0x2C41. -/
theorem test_check : checkOf 3 serialT [0x2C, 0x41, 60] = 0x50 := by decide +kernel

/-- The station's own half-cells are those that R4 and R6 write out. -/
theorem test_frameHalves :
    frameHalves ⟨3, serialT, [0x2C, 0x41, 60], 0x50⟩ = wire 3 0x7F00020A91 [0x2C, 0x41, 60] 0x50 := by decide +kernel

/-! ### The line and own sending (01, 03) -/

/-- The first frame of "Four frames at one station" (02), written out; CHECK by hand from R22. -/
def presenceBytes (flags : Nat) : List Nat := [0x2C, 0x41, 17, 20, 0, 0, 9, 0x2B, 0xF2, 0x2E, 0xE0, 5, 1, 10, flags]

/-- A PRESENCE whose V frame announces a tail and whose I frame, valid too, has another flag byte; its tail, and the frame
as it began 217 ms before its last sink (R15, R16, R40). -/
def heardMismatch : Heard :=
  let tail := List.replicate 4 false ++ (List.range 512).map fun k => (k / 8) % 4 == 1 || (k / 8) % 4 == 2
  { dips := (sensed 8 500 (wire 2 0x3A00417C22 (presenceBytes 4) 0xD5 ++ tail)).dips
    through := (sensed 8 500 (wire 2 0x3A00417C22 (presenceBytes 0) 0xC9 ++ tail)).through }
def frameTail : RxFrame := { frameNow with startedAt := 409770000 }
theorem reads_mismatch : receptionOf 0x2C41 frameTail heardMismatch = .discarded .mismatch := by decide +kernel

/-- R8: TEST before PRESENCE. R14, R16, R119: the frame that the idle ends is decided in its step, also
one whose V-channel decoded an announcement of a tail, discarded for MISMATCH. -/
theorem test_lineIdle :
    (after (.lineIdle 410000000 { frame := none, tail := silentTail }) { stationK with
      sender := { test := { filled := true }, presence := { filled := true } }
      head := { stationK.head with lastEvent := some { kind := .pass, number := 1, type := .optical, uptime := 414 } }
      }).map (fun u => u.sender.outgoing.map fun o => (o.kind, o.fields)) =
      some (some (.test, [0x2C, 0x41, 23, 0, 1, 1, 0, 1, 158])) ∧
    (after (.lineIdle 410000000 { frame := some (sensed 8 500 (wire 3 0x7F00020A91 [0x2C, 0x41, 61] 0x57)), tail := silentTail })
      (listening stationK)).map (fun u => (u.rx.good, u.rx.underWay, u.rx.awaiting, u.sched.quietUntil)) =
      some (119, none, [], some 470000000) ∧
    (after (.lineIdle 410000000 { frame := some heardMismatch, tail := silentTail })
      { stationK with rx := { (listening stationK).rx with underWay := some frameTail } }).map
        (fun u => (u.rx.damaged, u.rx.lastDamage, u.rx.underWay, u.rx.awaiting)) =
      some (4, .mismatch, none, []) := by decide +kernel

/-- R2: 8 mV is sink, 7 mV is not. -/
theorem test_startLeadingEdge :
    (after (.startLeadingEdge 411000000 8) stationK).map (·.rx.idle) = some false ∧
    (after (.startLeadingEdge 411000000 7) stationK).map (·.rx.idle) = some true := by decide +kernel

/-- "Two presences at one idle" (01), with P as the station: it loses in cell 28, at 14 ms, and keeps its slot. -/
def stationP : State :=
  { sending .presence .contending 0 true [] with settings := { stationK.settings with serial := serialP } }

theorem test_contentionLost :
    (after (.contentionLost 28 50) stationP).map (fun u => (u.sender.state, u.sender.presence, u.now)) =
      some (.waiting, { filled := true, aborts := 0, refill := false }, 410014125) := by decide +kernel

/-- "A station that cannot hear itself" (01): the eighth mismatch in START empties the slot. -/
theorem test_sendMismatch :
    (after (.sendMismatch 1 ⟨7, 7⟩) (sending .test .contending 6 false [])).map (·.sender.test) =
      some { filled := true, aborts := 7, refill := false } ∧
    (after (.sendMismatch 1 ⟨7, 7⟩) (sending .test .contending 7 false [])).map (·.sender.test) =
      some { filled := false, aborts := 0, refill := false } := by decide +kernel

/-- The table of "Two presences at one idle" (01): 22.0 ms, 90.0 ms, 91.0 ms, 219.0 ms. -/
theorem test_lastSerialCellSent :
    (after .lastSerialCellSent (sending .presence .contending 0 true [])).map (fun u => (u.now, u.sender.state)) =
      some (410022000, .payload) := by decide +kernel
theorem test_messageSent :
    (after .messageSent (sending .presence .payload 0 true (List.replicate 15 0))).map
      (fun u => (u.now, u.sender.state, u.sender.tailAt, u.sender.presence.filled)) =
      some (410090000, .quietCells, some 410091000, false) := by decide +kernel
theorem test_ownTailStart :
    (after .ownTailStart { stationK with sender := { state := .quietCells, tailAt := some 410091000 } }).map
      (fun u => (u.sender.tailAt, u.sounding.obs.map fun o => (o.trim, o.peer))) =
      some (some 410219000, some (10120, none)) := by decide +kernel

/-- R40: of each four periods of the tail the sink is on in places 1 and 2, with the trim (R1), and with an open cutoff it
draws nothing. -/
theorem test_tail_drive :
    [0, 1, 2, 3, 4, 62, 65].map (fun k => ({ stationK with
      now := 410091000 + 2000 * k
      sender := { state := .tail, tailAt := some 410219000 } } : State).sinkCurrent) = [0, 10120, 10120, 0, 0, 10120, 0] ∧
    ({ stationK with
      now := 410093000
      port := { cutoffOpen := true }
      sender := { state := .tail, tailAt := some 410219000 } } : State).sinkCurrent = 0 := by decide +kernel

/-- The tail of "One observation of a peer" (03), and tail 4 of "Observations rejected" (03): group 4 at 3010, the others
near 2216. -/
def workedTail : TailReadings := readings (withDips workedDips) (inOnPeriods 975)
def disturbedTail : TailReadings := readings (withDips [2216, 2216, 2216, 2216, 3010, 2216, 2216, 2216, 2216, 2216, 2216,
  2216, 2217, 2217, 2217, 2217]) (inOnPeriods 975)

/-- S 2796, through fraction 986, quality 4; and the observation that is rejected. -/
theorem test_tailEnd :
    (after (.tailEnd workedTail) (observing (some serialP) 9850)).map
      (fun u => u.roster.entries.map fun e => (e.shared, e.through, e.quality)) =
      some [(some 2796, some 986, 4)] ∧
    (after (.tailEnd disturbedTail) (observing (some serialP) 9850)).map
      (fun u => (u.sounding.lastRejection, u.roster.entries.map Entry.quality)) =
      some (.disturbed, [3]) := by decide +kernel

/-- R42, R45, R47: cut at the centre of period 1, an observation is TRUNCATED and has written places 0 and 1; so is that of
an own tail in which the V-channel judges no sink (R5). -/
theorem test_lineIdle_truncates :
    (after (.lineIdle 410094000 { frame := none, tail := workedTail }) (observing (some serialP) 9850)).map
      (fun u => (u.sounding.lastRejection, u.sounding.obs, u.sounding.vStore, u.sounding.iStore)) =
      some (.truncated, none, [0, -1100], [0, 975]) ∧
    (after (.lineIdle 410097000 { frame := none, tail := silentTail }) (inOwnTail false)).map
      (fun u => (u.sounding.lastRejection, u.sounding.obs, u.sender.state, u.rx.idle)) =
      some (.truncated, none, .tail, true) := by decide +kernel

/-- R41, R45: of an own tail and a peer's observed beside it, TAIL_END ends the earlier one alone; no idle comes earlier
than 4 ms after an own tail that was heard, and one in which an idle was judged sets no such bound (R5). -/
theorem test_tailEnd_earlier :
    (after (.tailEnd silentTail) (inTwoTails 410319000)).map (fun u => (u.now, u.sender.state, u.sounding.obs.isSome)) =
      some (410219000, .waiting, true) ∧
    (after (.tailEnd silentTail) (inTwoTails 410218999)).map (fun u => (u.now, u.sender.state, u.sounding.obs.isSome)) =
      some (410218999, .tail, false) ∧
    (after (.tailEnd silentTail) (inOwnTail false)).map (fun u => (u.sender.state, u.rx.idleNotBefore)) =
      some (.waiting, 410223000) ∧
    (after (.tailEnd silentTail) { inOwnTail true with rx := { (inOwnTail true).rx with idle := false } }).map
      (fun u => (u.sender.state, u.rx.idleNotBefore)) = some (.waiting, 0) := by decide +kernel

/-- R12, R114: what is sent stops, the slots empty, the presence timer starts for 30 s and the offset. -/
theorem test_sinkLockout :
    (after (.sinkLockout { since := 410000000, upTo := 410050001 }) (sending .presence .payload 3 true [])).map
      (fun u => (u.sender.state, u.sender.presence, u.sched.timer)) =
      some (.locked, { filled := false, aborts := 0, refill := false }, some 442350001) := by decide +kernel

/-- R12: 50 ms of current without a break are not too long yet, whether counted from the last gap or from the start. -/
theorem test_sinkLockout_short :
    (after (.sinkLockout { since := 410000001, upTo := 410050001 }) stationK).map (·.sender.state) = some .waiting ∧
    (∀ early ∈ [0, 1], (after (.sinkLockout { since := 0, upTo := 410050001 - early })
      { stationK with port := { stationK.port with guardFrom := 410000000 } }).map (·.sender.state) =
      some (if early = 0 then .locked else .waiting)) := by decide +kernel

/-! ### Frames heard (02) -/

/-- That frame as sensed on both channels, and what a peer of the site reads in it. -/
def heardPresence : Heard := sensed 8 500 (wire 2 0x3A00417C22 (presenceBytes 4) 0xD5)
def presenceP (sound : Bool) : PresenceIn where
  address := 17
  interval := 30
  uptime := 9
  trim := 11000
  depth := none
  headState := .ready
  testState := .passed
  soundFollows := sound

theorem reads_presence :
    receptionOf 0x2C41 frameNow heardPresence = .delivered serialP .both false (.presence (presenceP true)) := by
  decide +kernel

def heardForeign : Heard := sensed 8 500 (wire 4 0x7F00020A91 [0x5E, 7, 1, 23, 0] 0x10)
def heardMalformed : Heard := sensed 8 500 (wire 6 0x3A00603B71 [0, 0, 23, 3, 1, 1, 0, 1, 2] 0x7C)
def heardLength : Heard := sensed 8 500 (wire 2 0x3A00417C22 (presenceBytes 0x84) 0x5C)
def heardTest : Heard := sensed 8 500 (wire 6 0x3A00603B71 [0x2C, 0x41, 23, 1, 1, 2, 0, 3, 0x98] 0x11)
def heardReply : Heard := sensed 8 500 (wire 5 0x3A00603B71 [0x2C, 0x41, 0, 0x7F, 0, 2, 0x0A, 0x91, 4] 0x69)
def heardQuery (item check : Nat) : Heard :=
  sensed 8 500 (wire 4 0x7F00020A91 [0x2C, 0x41, 0, 0x3A, 0, 0x51, 0xD0, 0xE7, item] check)
def heardQueryAll : Heard := sensed 8 500 (wire 4 0x7F00020A91 [0x2C, 0x41, 1, 24, 4] 0x7A)
def heardQuiet (duration check : Nat) : Heard := sensed 8 500 (wire 3 0x7F00020A91 [0x2C, 0x41, duration] check)
def heardOwn : Heard := sensed 8 500 (wire 3 0x3A0051D0E7 [0x2C, 0x41, 60] 0x6D)

theorem reads_foreign : receptionOf 0x2C41 frameNow heardForeign = .foreign := by decide +kernel
theorem reads_malformed : receptionOf 0x2C41 frameNow heardMalformed = .discarded .malformed := by decide +kernel
theorem reads_length : receptionOf 0x2C41 frameNow heardLength = .discarded .length := by decide +kernel
theorem reads_test :
    receptionOf 0x2C41 frameNow heardTest = .delivered serialW .both false (.test 23 .repeatPass 2 .optical) := by decide +kernel
theorem reads_reply : receptionOf 0x2C41 frameNow heardReply = .delivered serialW .both false .reply := by decide +kernel
theorem reads_query (item check : Nat) (h : (item, check) ∈ [(0, 0x94), (3, 0x9D)]) :
    receptionOf 0x2C41 frameNow (heardQuery item check) =
      .delivered serialT .both false (.query (.serial serialK) item none) := by
  simp only [List.mem_cons, Prod.mk.injEq, List.not_mem_nil, or_false] at h
  rcases h with ⟨rfl, rfl⟩ | ⟨rfl, rfl⟩ <;> decide +kernel
theorem reads_query_address :
    receptionOf 0x2C41 frameNow heardQueryAll = .delivered serialT .both false (.query (.address 24) 4 none) := by
  decide +kernel
theorem reads_quiet (duration check : Nat) (h : (duration, check) ∈ [(0, 0xE4), (1, 0xE3), (61, 0x57)]) :
    receptionOf 0x2C41 frameNow (heardQuiet duration check) = .delivered serialT .both false (.quiet duration) := by
  simp only [List.mem_cons, Prod.mk.injEq, List.not_mem_nil, or_false] at h
  rcases h with ⟨rfl, rfl⟩ | ⟨rfl, rfl⟩ | ⟨rfl, rfl⟩ <;> decide +kernel
theorem reads_own : receptionOf 0x2C41 frameNow heardOwn = .delivered serialK .both false (.quiet 60) := by decide +kernel

/-- A change of the through-current by 4.99 mA is no sink: the frame is heard on V alone (R3, R15). -/
theorem reads_V :
    receptionOf 0x2C41 frameNow (sensed 8 499 (wire 3 0x7F00020A91 [0x2C, 0x41, 61] 0x57)) =
      .delivered serialT .v false (.quiet 61) := by decide +kernel

/-- A dip of 7 mV is no sink: the frame is heard on I alone (R2, R15). -/
theorem reads_I :
    receptionOf 0x2C41 frameNow (sensed 7 500 (wire 3 0x7F00020A91 [0x2C, 0x41, 61] 0x57)) =
      .delivered serialT .i false (.quiet 61) := by decide +kernel

/-- A frame without a tail that an idle has ended is at hand once it was heard without sink for 6 ms. -/
theorem ended (s : State) (h : Heard) (hs : s.rx.awaiting = [frameNow])
    (hq : (!(decideFrame frameNow h).announcesTail && decide (frameNow.lastSink h + 6000 ≤ 410000000)) = true) :
    FrameAtHand s 410000000 frameNow h := by
  simp only [Bool.and_eq_true, Bool.not_eq_true', decide_eq_true_eq] at hq
  exact .inl ⟨⟨[], hs⟩, hq⟩

/-- A frame of 15 field bytes under way that announces a tail is at hand 90 ms after its START edge, as its CHECK
cell ends. -/
theorem atCheckEnd (s : State) (h : Heard) (f : Frame) (hs : s.sender.outgoing = none)
    (hd : decideFrame frameNow h = .accepted f .both false) (hf : f.announcesTail = true) (hl : f.fields.length = 15) :
    FrameAtHand (listening s) 410000000 frameNow h :=
  .inr ⟨rfl, hs, fun _ he => (by obtain ⟨⟨_, h⟩, _⟩ := he; cases h), f, _, _, hd, hf, by rw [hl]; decide⟩

theorem decides_presence (flags : Nat) (check : Byte) (h : (flags, check) ∈ [(4, (0xD5 : Byte)), (0x84, 0x5C)]) :
    decideFrame frameNow (sensed 8 500 (wire 2 0x3A00417C22 (presenceBytes flags) check.toNat)) =
      .accepted ⟨2, serialP, (presenceBytes flags).map (BitVec.ofNat 8), check⟩ .both false := by
  simp only [List.mem_cons, Prod.mk.injEq, List.not_mem_nil, or_false] at h
  rcases h with ⟨rfl, rfl⟩ | ⟨rfl, rfl⟩ <;> decide +kernel

theorem length_atHand (s : State) (hs : s.sender.outgoing = none) : FrameAtHand (listening s) 410000000 frameNow heardLength :=
  atCheckEnd s _ _ hs (decides_presence 0x84 0x5C (by decide)) (by decide) rfl

theorem presence_atHand (s : State) (hs : s.sender.outgoing = none) :
    FrameAtHand (listening s) 410000000 frameNow heardPresence :=
  atCheckEnd s _ _ hs (decides_presence 4 0xD5 (by decide)) (by decide) rfl

/-- A frame read as a message, taken in. -/
theorem after_message (s : State) (m : Message) (h : Heard) (x : Serial) (via : Via) (d : Bool)
    (hr : s.supply.phase = .running) (hn : s.now = 410000000) (hs : s.settings.site = 0x2C41)
    (hf : FrameAtHand s 410000000 frameNow h) (ho : receptionOf 0x2C41 frameNow h = .delivered x via d m) :
    after (commandOf m 410000000 h) s = some (deliver x via m (counted s 410000000 frameNow h d)).refreshIndicator := by
  rw [after, exec_commandOf s 410000000 h frameNow x via d m hr (by rw [hn]; exact hf) (by rw [hs]; exact ho)]
  rfl

/-- A frame that is no message, taken in. -/
theorem after_discard (s : State) (h : Heard) (r : Reception) (hr : s.supply.phase = .running) (hn : s.now = 410000000)
    (hs : s.settings.site = 0x2C41) (hf : FrameAtHand s 410000000 frameNow h)
    (ho : receptionOf 0x2C41 frameNow h = r) (hd : r.isDiscard = true) :
    after (.frameDiscarded 410000000 h) s =
      some (takeReception r { s.advance 410000000 with rx := withoutFrame s.rx frameNow h }).refreshIndicator := by
  have ho' : receptionOf (s.advance 410000000).settings.site frameNow h = r := by rw [State.advance_settings, hs]; exact ho
  have hf' : FrameAtHand (s.advance 410000000) (s.advance 410000000).now frameNow h := by
    show FrameAtHand (s.advance 410000000) (max s.now 410000000) frameNow h
    rw [hn]; exact hf
  rw [after, exec, execFrameDiscarded, whenRunning_running (s.advance 410000000) _ hr,
    receiveIf_atHand (s.advance 410000000) h frameNow _ hf' (by rw [ho']; exact hd), ho']
  rfl

/-- "Four frames at one station" (02), frame 1; the uptime 9 after 20 counts a restart (R72). -/
theorem test_presence :
    (after (.presence 410000000 heardPresence) (listening stationK)).map (fun u =>
      (u.rx.good, u.sounding.obs.map fun o => (o.trim, o.endsAt), u.roster.entries.map fun e => (e.depth, e.age, e.restarts))) =
      some (119, some (11000, 410129000), [(none, 0, 15)]) := by
  rw [show Instr.presence 410000000 heardPresence = commandOf (.presence (presenceP true)) 410000000 heardPresence from rfl,
    after_message _ _ _ _ _ _ rfl rfl rfl (presence_atHand stationK rfl) reads_presence]
  decide +kernel

/-- Frames 2 to 4 of the same sequence. -/
theorem test_frameDiscarded :
    (after (.frameDiscarded 410000000 heardForeign) stationK).map (fun u => (u.rx.foreign, u.rx.lastDamage)) =
      some (1, .iDamaged) ∧
    (after (.frameDiscarded 410000000 heardMalformed) stationK).map (fun u => (u.rx.damaged, u.rx.lastDamage)) =
      some (4, .malformed) ∧
    (after (.frameDiscarded 410000000 heardLength) (listening stationK)).map (fun u => (u.rx.damaged, u.rx.lastDamage)) =
      some (4, .length) := by
  rw [after_discard _ _ _ rfl rfl rfl (ended _ _ rfl (by decide +kernel)) reads_foreign rfl,
    after_discard _ _ _ rfl rfl rfl (ended _ _ rfl (by decide +kernel)) reads_malformed rfl,
    after_discard _ _ _ rfl rfl rfl (length_atHand stationK rfl) reads_length rfl]
  decide +kernel

/-- R69, R145: W's TEST is journalled with K's uptime; W, LIVE under K's address 23, is the conflict (R80, R81). -/
theorem test_test :
    (after (.test 410000000 heardTest) stationK).map (fun u => (u.journal.entries, u.roster.conflict)) =
      some ([{
          heardAt := 410, serial := serialW, address := 23, kind := .repeatPass, number := 2
          typeTested := .optical, source := .peer }],
        some serialW) := by
  rw [show Instr.test 410000000 heardTest = commandOf (.test 23 .repeatPass 2 .optical) 410000000 heardTest from rfl,
    after_message _ _ _ _ _ _ rfl rfl rfl (ended _ _ rfl (by decide +kernel)) reads_test]
  decide +kernel

/-- R65: a newcomer known by a REPLY alone has the interval 155 and no address. -/
theorem test_reply :
    (after (.reply 410000000 heardReply) stationK).map (fun u => u.roster.entries.map fun e => (e.serial, e.address, e.interval)) =
      some [(serialP, 17, 30), (serialW, 0, 155)] := by
  rw [show Instr.reply 410000000 heardReply = commandOf .reply 410000000 heardReply from rfl,
    after_message _ _ _ _ _ _ rfl rfl rfl (ended _ _ rfl (by decide +kernel)) reads_reply]
  decide +kernel

/-- Step 1 of "A tool reads one station" (09): the record and the slot. -/
theorem test_query :
    (after (.query 410000000 (heardQuery 0 0x94)) stationK).map (fun u => (u.sender.reply.filled, u.reply.record)) =
      some (true, some { requester := serialT, item := 0, index := none }) := by
  rw [show Instr.query 410000000 (heardQuery 0 0x94)
    = commandOf (.query (.serial serialK) 0 none) 410000000 (heardQuery 0 0x94) from rfl,
    after_message _ _ _ _ _ _ rfl rfl rfl (ended _ _ rfl (by decide +kernel)) (reads_query 0 0x94 (by decide))]
  decide +kernel

/-- R119: 61 s are brought down to 60 s. -/
theorem test_quiet :
    (after (.quiet 410000000 (heardQuiet 61 0x57)) stationK).map (fun u => u.sched.quietUntil) =
      some (some 470000000) := by
  rw [show Instr.quiet 410000000 (heardQuiet 61 0x57) = commandOf (.quiet 61) 410000000 (heardQuiet 61 0x57) from rfl,
    after_message _ _ _ _ _ _ rfl rfl rfl (ended _ _ rfl (by decide +kernel)) (reads_quiet 61 0x57 (by decide))]
  decide +kernel

/-- The SUMMARY of a station with these figures: LENGTH 41; rank, live and stale counts (R35). -/
theorem test_summary_fields :
    (replyFields stationK { requester := serialT, item := 0, index := none }).length = 41 ∧
    (replyFields stationK { requester := serialT, item := 4, index := none }).length = 9 ∧
    (replyFields stationK { requester := serialT, item := 1, index := some 4 }).length = 12 ∧
    (replyFields stationK { requester := serialT, item := 1, index := some 0 }).length = 30 ∧
    (replyFields stationK { requester := serialT, item := 9, index := none }).length = 11 := by decide +kernel

/-! ### Seconds, presences, orientation (04, 05, 06) -/

/-- R75: at age 70 an entry of interval 30 is STALE. -/
theorem test_secondTick :
    (after (.secondTick none 1023) { stationK with roster := { entries := [{ entryP with age := 69 }] } }).map
      (fun u => (u.supply.uptime, u.roster.entries.map fun e => (e.age, e.state))) =
      some (411, [(70, .stale)]) := by decide +kernel

/-- R98, R99: the third reading of -20 steps turns FEED_A to FEED_B, and the figures are cleared. -/
theorem test_orientationChange :
    (after (.orientationChange 410000000 (-20)) { stationK with
      port := { orientation := .feedA, candidate := .feedB, run := 2 } }).map
      (fun u => (u.port.orientation, u.sounding.ownDepth, u.roster.entries.map Entry.relation)) =
      some (.feedB, none, [.unmeasured]) := by decide +kernel

/-- R98: a second reading within a second of the last one does not count. R85: a flip at the moment of an own merge, decided
first, leaves SENSE_FAULT as it was before the merge, and 1 us after it as the merge left it. -/
theorem test_orientationChange_once :
    (after (.orientationChange 410000000 (-20)) { stationK with
      port := { orientation := .feedA, candidate := .feedB, run := 2, readingsFrom := 409000001 } }).map
      (fun u => (u.port.orientation, u.port.run)) = some (.feedA, 2) ∧
    (∀ late ∈ [0, 1], (after (.orientationChange (410000000 + late) (-20)) { stationK with
      port := { orientation := .feedA, candidate := .feedB, run := 2 }
      sounding := { stationK.sounding with
        senseFault := true, ownMerge := some { decidedAt := 410000000, noted := .feedA, faultBefore := false } } }).map
      (fun u => (u.sounding.ownDepth, u.sounding.senseFault)) = some (none, decide (late = 1))) := by decide +kernel

theorem test_entryStale :
    (after (.entryStale serialP) { stationK with roster := { entries := [{ entryP with age := 70 }] } }).map
      (fun u => u.roster.entries.map Entry.state) = some [.stale] := by decide +kernel

/-- "A full roster" (04): age 240 at interval 30. -/
theorem test_entryRemoved :
    (after (.entryRemoved serialP) { stationK with roster := { entries := [{ entryP with age := 240 }] } }).map
      (fun u => u.roster.entries.length) = some 0 := by decide +kernel

theorem test_presenceTimerExpiry :
    (after .presenceTimerExpiry stationK).map (fun u => (u.now, u.sender.presence.filled, u.sched.timer)) =
      some (420000000, true, none) := by decide +kernel

/-- R121: a presence owed waits for the offset after quiet. -/
theorem test_quietEnd :
    (after .quietEnd { stationK with sched := { offset := 2300000, quietUntil := some 412000000, deferred := true } }).map
      (fun u => (u.sched.timer, u.sched.deferred)) = some (some 414300000, false) := by decide +kernel

/-! ### The head (07) -/

/-- "A head proved" (07): 412.4 s, 414.4 s, 415.4 s and 426.4 s. -/
def headAt (state : HeadState) (timer : Timer) (alarm : Bool) (cycles : Nat) (record : TestRecord) : Head where
  supply := decide (state ≠ .resetting)
  alarm := alarm
  identity := .head .optical
  previous := some (.head .optical)
  state := state
  headType := some .optical
  timer := timer
  cycles := cycles
  record := record

def tested (state : TestState) (number : Nat) : TestRecord := { state := state, number := some number, type := some .optical }

theorem test_alarmAsserted :
    (after (.alarmAsserted 412400000) stationK).map (fun u => (u.head.state, u.head.timer)) =
      some (.confirming, some 414400000) := by decide +kernel
/-- R125: within the 50 ms of the filter a release is not seen; at its end it is. -/
theorem test_alarmReleased_filter :
    ∀ early ∈ [0, 1], (after (.alarmReleased (412450000 - early))
      (withHead { headAt .confirming (some 414400000) true 0 {} with alarmFrom := 412400000 })).map (·.head.state) =
      some (if early = 0 then .ready else .confirming) := by decide +kernel
theorem test_alarmReleased :
    (after (.alarmReleased 413000000) (withHead (headAt .confirming (some 414400000) true 0 {}))).map
      (fun u => (u.head.state, u.head.timer)) = some (.ready, none) := by decide +kernel
theorem test_confirmedAlarm :
    (after .confirmedAlarm (withHead (headAt .confirming (some 414400000) true 0 {}))).map
      (fun u => (u.head.state, u.head.record.number, u.head.testedLatch, u.sender.test.filled)) =
      some (.resetting, some 1, some 444400000, true) := by decide +kernel
theorem test_resettingEnd :
    (after .resettingEnd (withHead (headAt .resetting (some 415400000) false 0 (tested .passed 1)))).map
      (fun u => (u.head.state, u.head.supply, u.head.timer)) = some (.recovering, true, some 420400000) := by decide +kernel
theorem test_recoveringEnd_ready :
    (after .recoveringEnd (withHead (headAt .recovering (some 426400000) false 1 (tested .passed 1)))).map
      (fun u => (u.head.state, u.head.cycles)) = some (.ready, 0) := by decide +kernel

/-- "A head that sticks" (07): the third cycle, with the record's number kept. -/
theorem test_recoveringEnd_stuck :
    (after .recoveringEnd (withHead (headAt .recovering (some 920000000) true 2 (tested .passed 2)))).map
      (fun u => (u.head.state, u.head.cycles, u.head.record.state, u.head.record.number)) =
      some (.stuck, 3, .stuck, some 2) := by decide +kernel

theorem test_settlingEnd :
    (after .settlingEnd (withHead (headAt .settling (some 440000000) false 0 {}))).map (·.head.state) =
      some .ready := by decide +kernel
theorem test_testedLatchExpiry :
    (after .testedLatchExpiry (withHead { headAt .ready none false 0 {} with testedLatch := some 444400000 })).map
      (fun u => (u.now, u.head.testedLatch)) = some (444400000, none) := by decide +kernel

/-- "A head swapped" (07): the second HEAT_FIXED reading fits the head, whose type was not the type tested. -/
theorem test_secondTick_head :
    (after (.secondTick none 200) (withHead { previous := some (.head .heatFixed), supply := true, record := tested .passed 3 })).map
      (fun u => (u.head.state, u.head.headType, u.head.record.state)) =
      some (.settling, some .heatFixed, .notTested) := by decide +kernel

/-! ### Isolator, supply, starts (10) -/

/-- "A short beyond a station" (10): the criterion opens; a third trial fails 1 ms in and latches, but not earlier
(log 46). -/
theorem test_shortCriterion :
    (after (.shortCriterion 410001000 ⟨15800, 2000⟩ 0 silentTail) stationK).map (fun u => (u.isolator.state, u.isolator.timer)) =
      some (.openWait, some 420001000) ∧
    (after (.shortCriterion 410004000 ⟨15800, 2000⟩ 0 silentTail) { stationK with
      isolator := { state := .trial, failed := 2, timer := some 410103000 } }).map (·.isolator) =
      some { state := .latched, failed := 3, timer := none } ∧
    (after (.shortCriterion 410003999 ⟨15800, 2000⟩ 0 silentTail) { stationK with
      isolator := { state := .trial, failed := 2, timer := some 410103000 } }).map (·.isolator) =
      some { state := .trial, failed := 2, timer := some 410103000 } := by decide +kernel
theorem test_openWaitExpiry :
    (after .openWaitExpiry { stationK with isolator := { state := .openWait, failed := 1, timer := some 420002000 } }).map
      (·.isolator) = some { state := .trial, failed := 1, timer := some 420102000 } := by decide +kernel
theorem test_trialExpiry :
    (after .trialExpiry { stationK with isolator := { state := .trial, failed := 0, timer := some 410100000 } }).map
      (fun u => (u.isolator.state, u.sender.presence.filled)) = some (.closed, true) := by decide +kernel

/-- "A sagging feed pack" (10): 16.9 V, 17.3 V, 13.7 V, then 15.4 V with the mark intact. -/
theorem test_bandLow : (after (.bandLow 410000000 16900) stationK).map (·.supply.band) = some .low := by decide +kernel
theorem test_bandNormal :
    (after (.bandNormal 410000000 17300) { stationK with supply := { stationK.supply with band := .low } }).map
      (·.supply.band) = some .low ∧
    (after (.bandNormal 410000000 17500) { stationK with supply := { stationK.supply with band := .low } }).map
      (·.supply.band) = some .normal := by decide +kernel
/-- R169: a voltage that has left LOW's side for less than 1 ms does not change the band. -/
theorem test_bandNormal_held :
    ∀ early ∈ [0, 1], (after (.bandNormal (410001000 - early) 17500) (stationK.withBand .low)).map (·.supply.band) =
      some (if early = 0 then .normal else .low) := by decide +kernel

/-- A station held in reset, with its retained domain. -/
def heldK (retained : Retained) : State where
  now := 410000000
  retained := retained
  port := { cutoffOpen := retained.lockout }
  sender := { state := if retained.lockout = true then .locked else .waiting }
  settings := { factory := { serial := serialK, trim := 10120 } }
  supply := { band := .critical, phase := .held }
  indicator := { shown := .dark }

theorem test_bandCritical :
    (after (.bandCritical 410000000 13700) stationK).map (fun u => (u.supply.phase, u.roster.entries, u.head.supply)) =
      some (.held, [], false) := by decide +kernel
theorem test_startBegin :
    (after (.startBegin 410160000 15400 true) (heldK { lockout := true })).map
      (fun u => (u.supply.cause, u.sender.state, u.supply.phaseTimer)) =
      some (.brownout, .locked, some 410180000) ∧
    (after (.startBegin 410160000 15400 false) (heldK { lockout := true })).map
      (fun u => (u.supply.cause, u.sender.state, u.port.cutoffOpen)) = some (.powerOn, .waiting, false) := by decide +kernel

/-- A station in a start phase whose time runs out at 410 s. -/
def starting (phase : Phase) (record : SettingsRecord) : State where
  supply := { phase := phase, phaseTimer := some 410000000 }
  settings := { factory := { serial := serialK, trim := 10120 }, record := record, serial := serialK, trim := 10120 }

/-- The phases of the same table: 2 ms after CLOCK_SETTLE, 160 ms after LOAD_SETTINGS, RUNNING with its first second. -/
theorem test_clockSettle :
    (after .clockSettle (starting .clockSettle {})).map (fun u => (u.supply.phase, u.supply.phaseTimer)) =
      some (.loadSettings, some 410002000) := by decide +kernel
theorem test_loadSettings :
    (after .loadSettings (starting .loadSettings { site := 0x2C41, address := 24, check := 0x8A, mark := true })).map
      (fun u => (u.settings.site, u.settings.address, u.sched.offset, u.supply.phaseTimer)) =
      some (0x2C41, 24, 2300000, some 410160000) ∧
    (after .loadSettings (starting .loadSettings { site := 0x2C41, address := 24, check := 0x8B, mark := true })).map
      (fun u => (u.settings.site, u.settings.address, u.settings.recovered)) = some (0, 0, true) := by decide +kernel
theorem test_selfTest :
    (after (.selfTest (sensed 0 0 []) silentTail) (starting .selfTest {})).map
      (fun u => (u.supply.phase, u.supply.tickAt, u.supply.selftestFail)) =
      some (.running, some 411000000, true) := by decide +kernel

/-! ### IR entry (11): "Addressing a new base" -/

/-- A running base with given settings, in an entry state. -/
def baseU (site : Site) (address : Nat) (ir : IrPort) : State where
  now := 10000000
  supply := { band := .normal, phase := .running }
  head := { supply := true }
  settings := { site := site, address := address, recovered := true }
  ir := ir
  indicator := { shown := .unaddressed }

/-- The port while an address is being entered. -/
def entering (value digits : Nat) : IrPort where
  mode := .entering
  staged := some { value := value, digits := digits }
  entryTimer := some 19000000
  lastValid := some { toggle := false, arrived := 9000000 }

/-- The row at 1.30 s: key 4, toggle 1, after key 2. -/
theorem test_digit :
    (after (.digit 10300000 0x2C418416) (baseU 0 0 (entering 2 1))).map (fun u => (u.ir.staged, u.ir.entryTimer)) =
      some (some { value := 24, digits := 2 }, some 20300000) := by decide +kernel

/-- The row at 1.20 s, its check wrong, and a repeat during the write (2.52 s). -/
theorem test_irWordDiscarded :
    (after (.irWordDiscarded 10000000 0x2C418417) (baseU 0 0 (entering 2 1))).map
      (fun u => (u.ir.checkError, u.ir.staged)) = some (true, some { value := 2, digits := 1 }) ∧
    (after (.irWordDiscarded 10020000 0x2C410A98) (baseU 0 0 { mode := .storing })).map (·.ir.overflow) = some true := by
  decide +kernel

/-- The row at 2.50 s: the word's site is adopted, and the LED falls to the address 0 blink. -/
theorem test_enter :
    (after (.enter 10000000 0x2C410A98) (baseU 0 0 (entering 24 2))).map
      (fun u => (u.ir.mode, u.ir.write, u.indicator.shown, u.settings.record.mark)) =
      some (.storing, some { site := 0x2C41, address := 24, endsAt := 10040000 }, .unaddressed, false) := by decide +kernel

/-- The rows at 2.54 s and 3.14 s. -/
theorem test_settingsWrite :
    (after (.settingsWrite 0x2C41 24 0x8A) (baseU 0 0 {
      mode := .storing, write := some { site := 0x2C41, address := 24, endsAt := 10040000 } })).map
      (fun u => (u.settings.address, u.settings.recovered, u.indicator.shown, u.sender.presence.filled)) =
      some (24, false, .acknowledge, true) := by decide +kernel
theorem test_irFeedbackEnd :
    (after .irFeedbackEnd { baseU 0x2C41 24 {} with
      indicator := { feedback := some { kind := .acknowledge, endsAt := 10640000 }, shown := .acknowledge } }).map
      (fun u => (u.now, u.indicator.shown)) = some (10640000, .normal) := by decide +kernel

theorem test_cancel :
    (after (.cancel 10000000 0x2C410B99) (baseU 0x2C41 0 (entering 24 2))).map (fun u => (u.ir.mode, u.ir.staged)) =
      some (.idle, none) := by decide +kernel
theorem test_sound :
    (after (.sound 10000000 0x2C410C9E) { baseU 0x2C41 0 {} with sched := { quietUntil := some 20000000 } }).map
      (fun u => (u.sender.presence.filled, u.sched.exempt)) = some (true, true) := by decide +kernel
theorem test_clear :
    (after (.clear 10000000 0x2C410D9F) { baseU 0x2C41 0 {} with
      isolator := { state := .latched, failed := 3 } }).map (·.isolator) =
      some { state := .trial, failed := 0, timer := some 10100000 } := by decide +kernel

/-- R179: a repeat 3 s after the first word, not one a microsecond earlier. -/
def holding (since : Nat) : IrPort where
  lastValid := some { toggle := false, arrived := 9900000 }
  press := some { key := 14, since := since }
theorem test_restart :
    (after (.restart 10000000 0x2C410E9C) (baseU 0x2C41 24 (holding 7000000))).map
      (fun u => (u.supply.cause, u.supply.phase)) = some (.irRestart, .clockSettle) ∧
    (after (.restart 10000000 0x2C410E9C) (baseU 0x2C41 24 (holding 7000001))).map (·.supply.phase) =
      some .running := by decide +kernel

theorem test_siteClear :
    (after (.siteClear 10000000 0x2C410F9D) (baseU 0x2C41 24 {})).map (·.ir.write) =
      some (some { site := 0, address := 24, endsAt := 10040000 }) ∧
    (after (.siteClear 10000000 0x2C410F9D) (baseU 0 24 {})).map (·.indicator.shown) = some .error := by decide +kernel
theorem test_entryTimerExpiry :
    (after .entryTimerExpiry (baseU 0x2C41 24 (entering 24 2))).map (fun u => (u.now, u.ir.mode)) =
      some (19000000, .idle) := by decide +kernel
theorem test_identifyTimerExpiry :
    (after .identifyTimerExpiry { baseU 0x2C41 24 {} with indicator := { identify := some 30000000, shown := .identify } }).map
      (fun u => (u.indicator.identify, u.indicator.shown)) = some (none, .normal) := by decide +kernel

/-! ### The queue -/

/-- The front command is taken; an empty queue idles. -/
theorem test_step :
    (match step { stationK with pending := [.presenceTimerExpiry, .quietEnd] } with
      | .next u => some (u.pending, u.sched.timer)
      | .fault _ => none
      | .refused _ => none) = some ([.quietEnd], none) ∧ step stationK = .next stationK := ⟨by decide +kernel, rfl⟩

/-! ### Witnesses: the hypotheses of each statement can be met -/

theorem witness_StepRunsFrontCommand : { stationK with pending := [.quietEnd] }.pending = [.quietEnd] := rfl
theorem witness_LedShowsFirstCondition : ∃ u, exec .presenceTimerExpiry stationK = .next u := ⟨_, rfl⟩

/-- W's entry, which bears K's address 23, LIVE, without a depth. -/
def entryW : Entry := { blankEntry serialW .v with address := 23 }

/-- K with two peers, a conflict, a journal entry, a presence that waits, a head that was proved, and a command waiting. -/
def busyK : State :=
  { stationK with
    pending := [.secondTick none 100]
    roster := { entries := [entryP, entryW], conflict := some serialW }
    sender := { test := { filled := true, aborts := 7 }, presence := { filled := true } }
    head := { headAt .resetting (some 415400000) false 0 (tested .passed 255) with
      lastEvent := some { kind := .repeatPass, number := 255, type := .optical, uptime := 410 } }
    journal := { entries := [{
      heardAt := 410, serial := serialK, address := 23, kind := .repeatPass, number := 255
      typeTested := .optical, source := .own }] } }

theorem witness_StartValuesKept :
    StartValues (starting .clockSettle {}) ∧
    ∃ u, step { starting .clockSettle {} with pending := [.clockSettle] } = .next u :=
  ⟨fun _ => by decide, _, rfl⟩

theorem witness_RosterOrderKept : RosterFits busyK ∧ ∃ u, step busyK = .next u := by
  refine ⟨⟨by decide, ?_, ?_, by decide, by decide⟩, _, rfl⟩
  · exact .cons (fun b hb => by cases hb with
      | head => trivial
      | tail _ h => cases h) (.cons (fun _ h => by cases h) .nil)
  · decide

theorem witness_ConflictKept : RosterFits busyK ∧ ConflictFits busyK ∧ ∃ u, step busyK = .next u :=
  ⟨witness_RosterOrderKept.1,
    ⟨by decide, [entryP], entryW, [], rfl, rfl, ⟨rfl, rfl⟩, fun x hx h => by
      cases hx with
      | head => exact absurd h.2 (by decide)
      | tail _ hx => cases hx⟩, _, rfl⟩

theorem witness_RelationsKept : RelationsFit busyK ∧ ∃ u, step busyK = .next u := by
  refine ⟨fun e he => ?_, _, rfl⟩
  have he : e = entryP ∨ e = entryW := by simpa [busyK] using he
  rcases he with rfl | rfl
  · refine ⟨by decide, ?_⟩
    rintro d k x phi - h1 h2 h3 h4
    cases h1; cases h2; cases h3; cases h4
    exact .inr (.inl (by decide))
  · exact ⟨fun _ => rfl, fun _ _ _ _ _ _ h => by cases h⟩

theorem witness_FiguresInRangeKept : FiguresFit busyK ∧ ∃ u, step busyK = .next u := by
  refine ⟨⟨fun e he => ?_, fun n h => ?_, by decide, by decide, ⟨by decide, by decide⟩,
    fun o h => ?_, by decide, fun x h => ?_⟩, _, rfl⟩
  · have he : e = entryP ∨ e = entryW := by simpa [busyK] using he
    rcases he with rfl | rfl <;>
      exact ⟨by decide, by decide, by decide, fun n h => by cases h <;> decide, fun n h => by cases h <;> decide,
        fun n h => by cases h <;> decide, fun n h => by cases h <;> decide, by decide, by decide, by decide, by decide⟩
  · cases h; decide
  · cases h
  · cases h

theorem witness_JournalOrderKept : JournalFits busyK ∧ ∃ u, step busyK = .next u :=
  ⟨⟨by decide, by decide, by decide, by decide, by decide, by decide⟩, _, rfl⟩

theorem witness_SenderAgreementKept : SenderFits busyK ∧ ∃ u, step busyK = .next u := by
  refine ⟨⟨fun k => ?_, by decide, by decide, fun h => absurd h (by decide), by decide, fun o h => ?_, fun k => ?_, by decide,
    by decide, by decide, by decide, fun h => absurd rfl h⟩, _, rfl⟩
  · cases k <;> exact ⟨by decide, by decide⟩
  · cases h
  · cases k <;> decide

theorem witness_HeadAgreementKept : HeadFits busyK ∧ ∃ u, step busyK = .next u := by
  refine ⟨⟨by decide, by decide, by decide, by decide, by decide, by decide, by decide, fun x => ?_, by decide, by decide,
    by decide, by decide, by decide, fun n h => ?_, by decide, fun e h => ?_, by decide, by decide⟩, _, rfl⟩
  · cases x <;> decide
  · cases h; decide
  · cases h; decide

theorem witness_IsolatorAgreementKept : IsolatorFits busyK ∧ ∃ u, step busyK = .next u :=
  ⟨⟨by decide, by decide, by decide, by decide, by decide, by decide⟩, _, rfl⟩

theorem witness_FrameDecodesByItsCheck : (List.replicate 48 (0 : Byte)).length ≤ 48 := by decide

theorem witness_PresenceAndTestReadAsCaptured :
    (stationK.settings.site = 0x2C41) ∧ stationK.settings.address ≤ 240 ∧ 30 ≤ stationK.sched.interval ∧
    stationK.sched.interval ≤ 155 ∧ stationK.supply.uptime ≤ 16777215 ∧ 9000 ≤ stationK.settings.trim ∧
    stationK.settings.trim ≤ 11000 ∧ stationK.sounding.ownQuality ≤ 15 ∧
    (∀ d, stationK.sounding.ownDepth = some d → d ≤ 11375) :=
  ⟨by decide, by decide, by decide, by decide, by decide, by decide, by decide, by decide, fun d h => by cases h; decide⟩

/-- Records of an item with an index and of the last unknown item. -/
theorem witness_CapturedReplyAccepted :
    (∀ r ∈ [({ requester := serialT, item := 1, index := some 255 } : PendingReply),
      { requester := serialT, item := 255, index := none }],
      r.item ≤ 255 ∧ r.item ≠ 3 ∧ (r.index.isSome = true ↔ (r.item = 1 ∨ r.item = 2))) ∧
    stationK.settings.site = 0x2C41 := by decide

/-- An idle at the very moment it can be judged, beside an observation, and in the own tail; one judged 1 us early, one
beside an own message, and one in the quiet cells after it. -/
theorem witness_IdleEndsFrameAndTail :
    (let s := { listening (observing (some serialP) 9850) with rx := { (listening stationK).rx with idleNotBefore := 410000000 } }
     s.supply.phase = .running ∧ LineFree s ∧ s.rx.idleNotBefore ≤ max s.now 0 ∧
     ∀ k, (s.sender.slot k).filled = false) ∧
    ((inOwnTail false).supply.phase = .running ∧ LineFree (inOwnTail false) ∧
      (inOwnTail false).rx.idleNotBefore ≤ max (inOwnTail false).now 0 ∧
      ∀ k, ((inOwnTail false).sender.slot k).filled = false) ∧
    max stationK.now 410005999 < { stationK with rx := { stationK.rx with idleNotBefore := 410006000 } }.rx.idleNotBefore ∧
    ¬LineFree (sending .test .payload 0 false []) ∧
    ¬LineFree { stationK with sender := { state := .quietCells, tailAt := some 410091000 } } :=
  ⟨⟨rfl, ⟨rfl, by decide⟩, by decide, fun k => by cases k <;> rfl⟩,
    ⟨rfl, ⟨rfl, by decide⟩, by decide, fun k => by cases k <;> rfl⟩, by decide, (fun h => by cases h.1),
    fun h => h.2 rfl⟩

theorem witness_EdgeOnIdleLineBeginsFrame :
    stationK.supply.phase = .running ∧ stationK.rx.idle = true ∧ (8 : Int) ≤ 8 ∧ (7 : Int) < 8 ∧
    (listening stationK).supply.phase = .running ∧ (listening stationK).rx.idle = false := by decide

/-- K waiting with the slots filled that a clause needs. -/
def waitingK (test reply : Bool) : State :=
  { stationK with
    sender := { test := { filled := test }, reply := { filled := reply }, presence := { filled := true } }
    reply := { record := some { requester := serialT, item := 0, index := none } }
    head := { stationK.head with lastEvent := some { kind := .pass, number := 1, type := .optical, uptime := 414 } } }

theorem witness_IdleStartsHighestSlot :
    (∀ s ∈ [waitingK true true, waitingK false true, waitingK false false],
      s.supply.phase = .running ∧ s.sender.state = .waiting ∧ s.sender.outgoing = none ∧
      s.rx.idleNotBefore ≤ max s.now 410000000 ∧ s.sounding.obs = none ∧ s.sender.presence.filled = true) ∧
    (waitingK true true).sender.test.filled = true ∧ (waitingK true true).head.lastEvent.isSome = true ∧
    (waitingK false true).sender.test.filled = false ∧ (waitingK false true).sender.reply.filled = true ∧
    (waitingK false true).reply.record.isSome = true ∧
    (waitingK false false).sender.test.filled = false ∧ (waitingK false false).sender.reply.filled = false := by decide +kernel

/-- The first recessive cell of P's PRESENCE, the one of the worked sequence, and its last cell. -/
theorem witness_LoserKeepsItsSlot :
    stationP.supply.phase = .running ∧ stationP.sender.state = .contending ∧
    stationP.sender.outgoing.map Outgoing.kind = some .presence ∧
    (∀ cell ∈ [1, 28, 43], (contentionBits OutKind.presence.cls stationP.settings.serial)[cell]? = some false) ∧
    (8 : Int) ≤ 8 := by decide +kernel

/-- The second half-cell of START and the last dominant cell of the contention field, with the abort count below and at the
limit, and the first half-cell of the payload. -/
theorem witness_MismatchAbortsMessage :
    (∀ count ∈ [6, 7], ∀ half ∈ [1, 86],
      let s := sending .test .contending count false []
      s.supply.phase = .running ∧ s.sender.outgoing.isSome = true ∧ s.sender.state = .contending ∧
      (∀ o ∈ s.sender.outgoing.toList, (frameHalves (s.frameOf o))[half]? = some true) ∧
      (half = 1 ∨ (2 ≤ half ∧ half < 88 ∧ half % 2 = 0)) ∧
      ((s.sender.slot .test).aborts + 1 < 8 ↔ count = 6)) ∧ (7 : Int) < 8 ∧
    (let s := sending .test .payload 6 false []
     s.supply.phase = .running ∧ s.sender.state = .payload ∧
      (∀ o ∈ s.sender.outgoing.toList, (frameHalves (s.frameOf o))[88]? = some false) ∧
      88 ≤ 88 ∧ (false = true ↔ (8 : Int) < 8)) := by decide +kernel

/-- The sink's clauses at the START cell, at the two ends of an own tail, and on a free line. -/
theorem witness_sinkCommanded :
    (sending .presence .contending 0 true []).sender.outgoing.isSome = true ∧
    (∀ now ∈ [410091000, 410219000],
      let s : State := { stationK with now := now, sender := { state := .tail, tailAt := some (410091000 + 128000) } }
      s.sender.outgoing = none ∧ s.sender.state = .tail ∧ s.sender.tailAt = some (410091000 + 128000) ∧ 410091000 ≤ s.now) ∧
    stationK.sender.outgoing = none ∧ stationK.sender.state ≠ .tail := by decide

theorem witness_WinnerGoesOnToPayloadAndTail :
    (sending .presence .contending 0 true []).supply.phase = .running ∧
    (sending .presence .contending 0 true []).sender.state = .contending ∧
    (sending .presence .contending 0 true []).sender.outgoing.isSome = true ∧
    (let s : State := { stationK with sender := { state := .quietCells, tailAt := some 410091000 } }
     s.supply.phase = .running ∧ s.sender.state = .quietCells ∧ s.sender.tailAt = some 410091000) := by decide

theorem witness_SentMessageEmptiesSlot :
    ∀ tail ∈ [true, false],
      let s := sending .presence .payload 7 tail []
      s.supply.phase = .running ∧ s.sender.state = .payload ∧ s.sender.outgoing.isSome = true := by decide

/-- Current drawn for 50 ms and 1 us, and for 50 ms, from a gap and from the start on. -/
theorem witness_LockoutSilencesSender :
    (let s := sending .presence .payload 0 true []
     s.supply.phase ≠ .held ∧ s.port.cutoffOpen = false ∧ s.port.guardFrom + 50000 < 410050001) ∧
    410000000 + 50000 < 410050001 ∧ 410050000 ≤ 410000000 + 50000 ∧
    (heldK {}).supply.phase = .held ∧ (heldK { lockout := true }).port.cutoffOpen = true ∧
    (let s : State := { stationK with port := { stationK.port with guardFrom := 410000000 } }
     410050000 ≤ s.port.guardFrom + 50000) := by decide

/-- The tail observed ends first, or with the own one. -/
theorem noOwnTailBefore :
    ∀ s ∈ [observing none 9850, inOwnTail false, inTwoTails 410218999], s.supply.phase = .running ∧
      ∀ o ∈ s.sounding.obs, NoOwnTailBefore s o.endsAt := by
  intro s hs
  simp only [List.mem_cons, List.not_mem_nil, or_false] at hs
  rcases hs with rfl | rfl | rfl <;> exact ⟨rfl, fun o h e hst he => by cases h; first | (cases he; decide) | cases he⟩

/-- One tail for each rejection kind; an observation with no own tail, at the end of an own tail that is observed, and before
the end of an own tail; an own tail that is not observed, and one that ends 1 us before the tail observed. -/
theorem witness_RejectedObservationChangesNoFigure :
    stationK.supply.phase = .running ∧ (observing none 9850).sounding.obs.map Observation.flipped = some false ∧
    RejectedAs true (vSamples workedTail) (iSamples .feedA workedTail) .lowSupply ∧
    (let r := readings (fun k => if k = 38 then -2048 else 0) fun _ => 0
     RejectedAs false (vSamples r) (iSamples .feedA r) .clipped) ∧
    RejectedAs false (vSamples disturbedTail) (iSamples .feedA disturbedTail) .disturbed ∧
    (let r := readings (fun _ => 0) fun _ => 0
     RejectedAs false (vSamples r) (iSamples .feedA r) .noDip) ∧
    (let s := observing none 9850
     ({ s with sounding := { s.sounding with obs := s.sounding.obs.map fun o => { o with flipped := true } } }
      : State).sounding.obs.map Observation.flipped = some true) ∧
    (∀ s ∈ [observing none 9850, inOwnTail false, inTwoTails 410218999], s.supply.phase = .running ∧
      ∀ o ∈ s.sounding.obs, NoOwnTailBefore s o.endsAt) ∧
    (let s : State := { stationK with sender := { state := .tail, tailAt := some 410219000 } }
     s.sounding.obs = none ∧ s.sender.state = .tail ∧ s.sender.tailAt = some 410219000) ∧
    (let s := inTwoTails 410219001
     (∀ o, s.sounding.obs = some o → 410219000 < o.endsAt) ∧ s.sender.state = .tail ∧ s.sender.tailAt = some 410219000) := by
  refine ⟨rfl, rfl, ?_, ?_, ?_, ?_, rfl, noOwnTailBefore, ⟨rfl, rfl, rfl⟩, (fun o h => by cases h; decide), rfl, rfl⟩ <;>
    exact (rejection_some _ _ _ _).1 (by decide +kernel)

/-- The worked observation of 03 is accepted; of a peer with an entry, of one without, and of the station itself. -/
theorem witness_AcceptedObservationMoves :
    (AcceptedObservation false (vSamples workedTail) (iSamples .feedA workedTail) ∧
      DepthSampleIs 9850 (vSamples workedTail) 2813) ∧
    (∃ q, HalfUp ((UsedAccumulation .feedA (iSamples .feedA workedTail)).toNat * 625) (2 * 9850) q ∧ q = 990) ∧
    0 < UsedAccumulation .feedA (iSamples .feedA workedTail) ∧
    [some serialP, some serialW, none].map (fun peer => (observing peer 9850).sounding.obs.map fun o => (o.flipped, o.peer)) =
      [some (false, some serialP), some (false, some serialW), some (false, none)] ∧
    (∀ peer, ∀ o ∈ (observing peer 9850).sounding.obs, NoOwnTailBefore (observing peer 9850) o.endsAt) ∧
    stationK.roster.find serialP = some entryP ∧ stationK.roster.find serialW = none := by
  refine ⟨?_, ⟨990, ?_, rfl⟩, ?_, ?_, (fun _ _ _ _ h => by cases h), ?_, ?_⟩
  · exact ⟨(rejection_none _ _ _).1 (by decide +kernel), by unfold DepthSampleIs HalfUp; decide +kernel⟩
  · unfold HalfUp; decide +kernel
  all_goals decide +kernel

/-- K with a roster of `n` peers of serials 1 to n, the last of them in a given state. -/
def crowdedK (n : Nat) (last : EntryState) : State :=
  { stationK with roster := { entries := (List.range n).map fun k => { blankEntry (BitVec.ofNat 40 (k + 1)) .v with
      age := 100, state := if k + 1 = n then last else .live } } }

/-- P with an entry, and W or P as a newcomer beside 249 entries; the frames are those read above. -/
theorem witness_PresenceTakenIn :
    judgeFrame 0x2C41 ⟨2, serialP, (presenceBytes 4).map (BitVec.ofNat 8), 0xD5⟩ = .message (.presence (presenceP true)) ∧
    stationK.supply.phase = .running ∧ FrameAtHand (listening stationK) 410000000 frameNow heardPresence ∧
    FrameAtHand (listening (crowdedK 249 .live)) 410000000 frameNow heardPresence ∧
    receptionOf 0x2C41 frameNow heardPresence = .delivered serialP .both false (.presence (presenceP true)) ∧
    serialP ≠ stationK.settings.serial ∧ stationK.roster.find serialP = some entryP ∧
    (crowdedK 249 .live).roster.find serialP = none ∧ (crowdedK 249 .live).roster.entries.length < 250 :=
  ⟨by decide +kernel, rfl, presence_atHand _ rfl, presence_atHand _ rfl, reads_presence, by decide, by decide,
    by decide +kernel, by decide +kernel⟩

theorem witness_TestTakenIn :
    receptionOf 0x2C41 frameNow heardTest = .delivered serialW .both false (.test 23 .repeatPass 2 .optical) ∧
    serialW ≠ stationK.settings.serial ∧ FrameAtHand busyK 410000000 frameNow heardTest ∧
    busyK.roster.find serialW = some entryW ∧
    (crowdedK 249 .live).roster.find serialW = none ∧ (crowdedK 249 .live).roster.entries.length < 250 :=
  ⟨reads_test, by decide, ended _ _ rfl (by decide +kernel), by decide, by decide +kernel, by decide +kernel⟩

theorem witness_ReplyTakenIn :
    receptionOf 0x2C41 frameNow heardReply = .delivered serialW .both false .reply ∧
    serialW ≠ stationK.settings.serial ∧ FrameAtHand busyK 410000000 frameNow heardReply ∧
    busyK.roster.find serialW = some entryW ∧
    (crowdedK 249 .live).roster.find serialW = none ∧ (crowdedK 249 .live).roster.entries.length < 250 :=
  ⟨reads_reply, by decide, ended _ _ rfl (by decide +kernel), by decide, by decide +kernel, by decide +kernel⟩

theorem fits_crowdedK (last : EntryState) : RosterFits (crowdedK 250 last) where
  room := by simp [crowdedK]
  ordered := List.pairwise_map.2 (List.pairwise_lt_range.imp_of_mem fun {a b} ha hb h => by
    have ha := List.mem_range.1 ha
    have hb := List.mem_range.1 hb
    simp only [Precedes, blankEntry, BitVec.toNat_ofNat]
    omega)
  oneForASerial := List.pairwise_map.2 (List.pairwise_lt_range.imp_of_mem fun {a b} ha hb h e => by
    have ha := List.mem_range.1 ha
    have hb := List.mem_range.1 hb
    have := congrArg BitVec.toNat e
    simp only [blankEntry, BitVec.toNat_ofNat] at this
    omega)
  noneOwn := by cases last <;> decide +kernel
  emptyAtStart := fun h => absurd rfl h

/-- 250 entries, the last of them STALE, and 250 entries all LIVE. -/
theorem witness_FullRosterEvictsOrRefuses :
    RosterKind (.presence (presenceP true)) ∧ FrameAtHand (listening (crowdedK 250 .stale)) 410000000 frameNow heardPresence ∧
    RosterFits (crowdedK 250 .stale) ∧
    (crowdedK 250 .stale).roster.find serialP = none ∧ (crowdedK 250 .stale).roster.entries.length = 250 ∧
    (∃ old ∈ (crowdedK 250 .stale).roster.entries, old.state = .stale ∧
      ∀ x ∈ (crowdedK 250 .stale).roster.entries, x.state = .stale →
        x.age < old.age ∨ (x.age = old.age ∧ old.serial.toNat ≤ x.serial.toNat)) ∧
    (crowdedK 250 .live).roster.find serialP = none ∧ (crowdedK 250 .live).roster.entries.length = 250 ∧
    ∀ x ∈ (crowdedK 250 .live).roster.entries, x.state = .live :=
  ⟨trivial, presence_atHand _ rfl, fits_crowdedK _, by decide +kernel, by decide +kernel, by decide +kernel, by decide +kernel, by decide +kernel,
    by decide +kernel⟩

theorem witness_QueryTaken :
    FrameAtHand stationK 410000000 frameNow (heardQuery 0 0x94) ∧ FrameAtHand stationK 410000000 frameNow (heardQuery 3 0x9D) ∧
    FrameAtHand stationK 410000000 frameNow heardQueryAll ∧ serialT ≠ stationK.settings.serial ∧
    receptionOf 0x2C41 frameNow (heardQuery 0 0x94) = .delivered serialT .both false (.query (.serial serialK) 0 none) ∧
    receptionOf 0x2C41 frameNow (heardQuery 3 0x9D) = .delivered serialT .both false (.query (.serial serialK) 3 none) ∧
    receptionOf 0x2C41 frameNow heardQueryAll = .delivered serialT .both false (.query (.address 24) 4 none) ∧
    QueryConcerns stationK (.serial serialK) 0 ∧ QueryConcerns stationK (.serial serialK) 3 ∧
    ¬QueryConcerns stationK (.address 24) 4 ∧ stationK.sender.reply.filled = false ∧ stationK.retained.lockout = false :=
  ⟨ended _ _ rfl (by decide +kernel), ended _ _ rfl (by decide +kernel), ended _ _ rfl (by decide +kernel), by decide,
    reads_query 0 0x94 (by decide), reads_query 3 0x9D (by decide), reads_query_address, rfl, rfl,
    by unfold QueryConcerns; decide, rfl, rfl⟩

theorem witness_QuietTaken :
    (FrameAtHand stationK 410000000 frameNow (heardQuiet 1 0xE3) ∧ FrameAtHand stationK 410000000 frameNow (heardQuiet 61 0x57) ∧
      FrameAtHand stationK 410000000 frameNow (heardQuiet 0 0xE4)) ∧ serialT ≠ stationK.settings.serial ∧
    receptionOf 0x2C41 frameNow (heardQuiet 1 0xE3) = .delivered serialT .both false (.quiet 1) ∧
    receptionOf 0x2C41 frameNow (heardQuiet 61 0x57) = .delivered serialT .both false (.quiet 61) ∧
    receptionOf 0x2C41 frameNow (heardQuiet 0 0xE4) = .delivered serialT .both false (.quiet 0) ∧
    stationK.sched.quietUntil = none ∧
    { stationK with sched := { quietUntil := some 420000000 } }.sched.quietUntil ≠ none :=
  ⟨⟨ended _ _ rfl (by decide +kernel), ended _ _ rfl (by decide +kernel), ended _ _ rfl (by decide +kernel)⟩, by decide,
    reads_quiet 1 0xE3 (by decide), reads_quiet 61 0x57 (by decide), reads_quiet 0 0xE4 (by decide), rfl,
    by decide⟩

/-- An unused class, a LENGTH that does not fit and one that does, a frame damaged and one accepted; a V-channel that decodes
an announcement of a tail, an I-channel that decodes none, and a frame in which neither does; the frames read above. -/
theorem witness_DiscardedFrameOnlyCounted :
    kindOfClass 7 = none ∧ kindOfClass 3 = some .quiet ∧ (lengthCheck .quiet [0]).isSome = true ∧
    lengthCheck .quiet [0x2C, 0x41, 60] = none ∧
    decideFrame frameNow (sensed 7 499 (wire 3 0x7F00020A91 [0x2C, 0x41, 61] 0x57)) = .damaged .vCoding ∧
    decideFrame frameNow heardPresence =
      .accepted ⟨2, serialP, (presenceBytes 4).map (BitVec.ofNat 8), 0xD5⟩ .both false ∧
    (let f : Frame := ⟨2, serialP, (presenceBytes 4).map (BitVec.ofNat 8), 0xD5⟩
     decodeChannel (heardOnV heardMismatch) (heardOnV heardMismatch) = .valid f ∧ f.announcesTail = true) ∧
    (let f : Frame := ⟨3, serialT, [0x2C, 0x41, 61], 0x57⟩
     decodeChannel (heardOnV (heardQuiet 61 0x57)) (heardOnV (heardQuiet 61 0x57)) = .valid f ∧
      decodeChannel (heardOnI frameNow (heardQuiet 61 0x57)) (heardOnV (heardQuiet 61 0x57)) = .valid f ∧
      f.announcesTail = false) ∧
    stationK.supply.phase = .running ∧ FrameAtHand stationK 410000000 frameNow heardMalformed ∧
    FrameAtHand (listening stationK) 410000000 frameNow heardLength ∧ FrameAtHand stationK 410000000 frameNow heardForeign ∧
    receptionOf 0x2C41 frameNow heardMalformed = .discarded .malformed ∧
    receptionOf 0x2C41 frameNow heardLength = .discarded .length ∧
    receptionOf 0x2C41 frameNow heardForeign = .foreign :=
  ⟨by decide, by decide, by decide, by decide, by decide +kernel, decides_presence 4 0xD5 (by decide),
    by decide +kernel, by decide +kernel, rfl, ended _ _ rfl (by decide +kernel), length_atHand _ rfl, ended _ _ rfl (by decide +kernel), reads_malformed, reads_length,
    reads_foreign⟩

theorem witness_IdleDecidesHeardFrame :
    stationK.supply.phase = .running ∧ LineFree stationK ∧ stationK.rx.idleNotBefore ≤ max stationK.now 0 ∧
    stationK.sounding.obs = none ∧ (∀ k, (stationK.sender.slot k).filled = false) ∧
    (∀ s ∈ [stationK, listening stationK], s.rx.awaiting ++ s.rx.underWay.toList = [frameNow]) ∧
    (∀ h ∈ [heardTest, heardMalformed, heardForeign], (decideFrame frameNow h).announcesTail = false ∧
      frameNow.lastSink h + 6000 ≤ max stationK.now 0) ∧ stationK.indicator.shown = stationK.firstCondition ∧
    receptionOf 0x2C41 frameNow heardTest = .delivered serialW .both false (.test 23 .repeatPass 2 .optical) ∧
    receptionOf 0x2C41 frameNow heardMalformed = .discarded .malformed ∧
    receptionOf 0x2C41 frameNow heardForeign = .foreign :=
  ⟨rfl, ⟨rfl, by decide⟩, by decide, rfl, fun k => by cases k <;> rfl, by decide, by decide +kernel, by decide,
    reads_test, reads_malformed, reads_foreign⟩

theorem witness_OwnSerialOnlySetsClash :
    stationK.supply.phase = .running ∧ FrameAtHand stationK 410000000 frameNow heardOwn ∧
    receptionOf 0x2C41 frameNow heardOwn = .delivered stationK.settings.serial .both false (.quiet 60) :=
  ⟨rfl, ended _ _ rfl (by decide +kernel), reads_own⟩

theorem witness_SecondTickAges :
    stationK.supply.phase = .running ∧ stationK.supply.tickAt = some 411000000 ∧
    IdentityIs (40 : BitVec 10).toNat stationK.head.identity ∧
    IdentityIs (199 : BitVec 10).toNat stationK.head.identity := by unfold IdentityIs; decide

/-- Readings of 20 and -20 steps and the greatest below them, against an orientation, a candidate and a run. -/
theorem witness_ThirdReadingTurnsOrientation :
    { stationK with isolator := { state := .openWait, timer := some 420001000 } }.isolator.state ≠ .closed ∧
    max stationK.now 0 < { stationK with port := { stationK.port with readingsFrom := 409000001 } }.port.readingsFrom + 1000000 ∧
    { stationK with port := { stationK.port with readingsFrom := 409000000 } }.port.readingsFrom + 1000000 ≤ max stationK.now 0 ∧
    stationK.isolator.state = .closed ∧ stationK.port.readingsFrom + 1000000 ≤ max stationK.now 0 ∧
    (20 ≤ (20 : Int) ∧ Orientation.feedA = stationK.port.orientation) ∧
    ((-20 : Int) ≤ -20 ∧ Orientation.feedB ≠ stationK.port.orientation ∧ Orientation.feedB ≠ stationK.port.candidate) ∧
    (-20 < (-19 : Int) ∧ (-19 : Int) < 20 ∧ -20 < (19 : Int) ∧ (19 : Int) < 20) ∧
    (∀ run ∈ [1, 2],
      let p : Port := { orientation := .feedA, candidate := .feedB, run := run }
      Orientation.feedB ≠ p.orientation ∧ Orientation.feedB = p.candidate ∧ (p.run + 1 < 3 ↔ run = 1)) ∧
    (let s := { stationK with sounding := { stationK.sounding with
        senseFault := true, ownMerge := some { decidedAt := 410000000, noted := .feedA, faultBefore := false } } }
     faultWithoutMerge s 410000000 = false ∧ faultWithoutMerge s 410000001 = true) := by decide

theorem witness_TickReadingActsAsOrientationChange :
    stationK.supply.phase = .running ∧ stationK.supply.tickAt = some 411000000 := by decide

theorem witness_SilentEntryGoesStaleAndLeaves :
    (∀ age ∈ [70, 240],
      let s : State := { stationK with roster := { entries := [{ entryP with age := age }] } }
      s.supply.phase = .running ∧ s.roster.find serialP = some { entryP with age := age }) ∧
    2 * entryP.interval + 10 ≤ 70 ∧ 8 * entryP.interval ≤ 240 ∧ entryP.state = .live ∧
    (crowdedK 250 .live).roster.entries.length = 250 := by decide +kernel

theorem witness_PresenceFallsDueAndQuietEnds :
    stationK.supply.phase = .running ∧ stationK.sched.timer = some 420000000 ∧ stationK.sched.quietUntil = none ∧
    (let x : Scheduler := { timer := some 420000000, quietUntil := some 430000000 }
     x.timer = some 420000000 ∧ x.quietUntil ≠ none ∧ x.quietUntil = some 430000000) := by decide

/-- Edges at the end of the filter and 1 us before it, of a line at either level, with and without supply. -/
theorem witness_AlarmEdgesMoveHead :
    let filtered := { stationK with head := { stationK.head with alarmFrom := 409950000 } }
    stationK.supply.phase = .running ∧ AlarmFiltered filtered (max stationK.now 0) ∧
    ¬AlarmFiltered { stationK with head := { stationK.head with alarmFrom := 409950001 } } (max stationK.now 0) ∧
    (filtered.head.supply = true ∧ filtered.head.alarm = false ∧ filtered.head.state = .ready) ∧
    (let h := headAt .settling (some 1) false 0 {}
     h.supply = true ∧ h.alarm = false ∧ h.state ≠ .ready) ∧
    (headAt .resetting (some 1) false 0 {}).supply = false ∧
    (let h := headAt .confirming (some 1) true 0 {}
     h.supply = true ∧ h.alarm = true ∧ h.state = .confirming) ∧
    (let h := headAt .stuck none true 0 {}
     h.supply = true ∧ h.alarm = true ∧ h.state ≠ .confirming) := by
  unfold AlarmFiltered; decide

theorem witness_HeadTimersMoveHead :
    (∀ state ∈ [HeadState.settling, .resetting, .recovering], ∀ alarm ∈ [true, false],
      let s := withHead (headAt state (some 415400000) alarm 1 {})
      s.supply.phase = .running ∧ s.head.timer = some 415400000 ∧ s.head.state = state ∧ s.head.alarm = alarm ∧
      s.head.cycles + 1 < 3) := by decide

/-- A first confirmation, one that raises the number to its top, and one that holds it there. -/
theorem witness_ConfirmedAlarmRecorded :
    (∀ r ∈ [({} : TestRecord), tested .passed 254, tested .stuck 255],
      let s := withHead (headAt .confirming (some 414400000) true 0 r)
      s.supply.phase = .running ∧ s.head.state = .confirming ∧ s.head.timer = some 414400000 ∧ s.head.alarm = true ∧
      s.head.headType = some .optical) ∧
    ({} : TestRecord).state = .notTested ∧
    (tested .passed 254).state ≠ .notTested ∧ (tested .passed 254).number = some 254 ∧ 254 < 255 ∧
    (tested .stuck 255).state ≠ .notTested ∧ (tested .stuck 255).number = some 255 ∧ ¬255 < 255 := by decide

theorem witness_ThirdCycleDeclaresStuck :
    let s := withHead (headAt .recovering (some 920000000) true 2 (tested .passed 2))
    s.supply.phase = .running ∧ s.head.state = .recovering ∧ s.head.timer = some 920000000 ∧ s.head.alarm = true ∧
    s.head.cycles = 2 ∧ s.head.record.number = some 2 ∧ s.head.record.type = some .optical := by decide

/-- Codes at the edges of the bands of R126, against the identity NONE or OPTICAL and a previous reading, beside a peer. -/
theorem witness_SecondIdentityReadingMovesHead :
    (let s : State := { stationK with head := { stationK.head with previous := some (.head .heatFixed) } }
     s.supply.phase = .running ∧ s.supply.tickAt = some 411000000 ∧ s.roster.entries = [entryP] ∧
     s.head.identity = .head .optical ∧ s.head.previous ≠ some .noHead ∧ s.head.previous = some (.head .heatFixed)) ∧
    { stationK.head with previous := some .noHead }.previous = some .noHead ∧
    ∀ x ∈ [(0, Identity.fault), (39, .fault), (200, .head .heatFixed), (399, .head .heatFixed), (400, .head .heatRise),
        (599, .head .heatRise), (600, .head .multi), (799, .head .multi), (800, .fault), (959, .fault), (960, .noHead),
        (1023, .noHead)], IdentityIs (BitVec.ofNat 10 x.1).toNat x.2 ∧ x.2 ≠ stationK.head.identity := by
  refine ⟨by decide, rfl, ?_⟩
  unfold IdentityIs
  decide

theorem witness_ShortOpensIsolator :
    stationK.supply.phase = .running ∧ stationK.isolator.state = .closed ∧
    35000 < (-35001 : Int).natAbs ∧ ¬35000 < (35000 : Int).natAbs ∧
    (stationK.port.orientation = .feedA ∧ (7999 : Int) < 8000 ∧ (14000 : Int) ≤ 14000) ∧
    (∀ failed ∈ [1, 2],
      let x : Isolator := { state := .trial, failed := failed, timer := some 410099000 }
      x.state = .trial ∧ (∀ e ∈ x.timer, e ≤ max stationK.now 0 + 99000) ∧ (x.failed + 1 < 3 ↔ failed = 1) ∧ (x.failed + 1 = 3 ↔ failed = 2)) ∧
    (let x : Isolator := { state := .trial, failed := 2, timer := some 410099001 }
     x.state = .trial ∧ ¬∀ e, x.timer = some e → e ≤ max stationK.now 0 + 99000) ∧
    ({ state := .latched, failed := 3 } : Isolator).state = .latched ∧
    (let s := observing (some serialP) 9850
     s.supply.phase = .running ∧ s.isolator.state = .closed ∧ s.sounding.obs.isSome = true) :=
  ⟨by decide, by decide, by decide, by decide, by decide, by decide, ⟨rfl, fun h => absurd (h _ rfl) (by decide)⟩, by decide,
    by decide⟩

theorem witness_IsolatorTriesAndCloses :
    ∀ state ∈ [IsolatorState.openWait, .trial],
      let s : State := { stationK with isolator := { state := state, failed := 2, timer := some 420001000 } }
      s.supply.phase = .running ∧ s.isolator.timer = some 420001000 ∧ s.isolator.state = state := by decide

theorem witness_BandMovesBetweenLowAndNormal :
    stationK.supply.phase ≠ .held ∧ stationK.supply.band = .normal ∧
    { stationK with supply := { stationK.supply with band := .low } }.supply.band = .low ∧
    (14000 ≤ 14000 ∧ 14000 < 17000) ∧ (14000 ≤ 16999 ∧ 16999 < 17000) ∧ 17000 ≤ 17000 ∧ 17500 ≤ 17500 ∧ 17499 < 17500 ∧
    (∀ b ∈ [Band.normal, .low], ((stationK.withBand b).supply.bandNotBefore ≤ max stationK.now 410001000 ∧
      max stationK.now 410000999 < (stationK.withBand b).supply.bandNotBefore)) := by decide

theorem witness_CriticalHoldsInReset :
    stationK.supply.phase ≠ .held ∧ 13999 < 14000 ∧
    (stationK.supply.band = .normal → stationK.supply.bandNotBefore ≤ max stationK.now 0) ∧
    (let s := stationK.withBand .normal
     s.supply.band = .normal ∧ max s.now 410000999 < s.supply.bandNotBefore) := by decide

theorem witness_StartKindFollowsRetention :
    (heldK {}).supply.phase = .held ∧ (heldK {}).retained.mark = true ∧
    (heldK { mark := false }).retained.mark = false ∧ 15000 ≤ 15000 ∧ 14999 < 15000 ∧
    (let s := enterReset stationK
     s.supply.phase = .held ∧ s.supply.bandNotBefore ≤ max s.now 410100000 ∧
      max s.now 410099999 < s.supply.bandNotBefore) := by decide

theorem witness_StartPhasesLeadToRunning :
    ∀ phase ∈ [Phase.clockSettle, .loadSettings, .selfTest],
      (starting phase {}).supply.phaseTimer = some 410000000 ∧ (starting phase {}).supply.phase = phase ∧
      (starting phase {}).roster.entries = [] := by decide

/-- A word that passes the checks of R177. -/
theorem passes (s : State) (w : IrWord) (h : (decide (s.ir.mode ≠ .storing) && irCheckOk w
    && (decide (s.settings.site = 0) || decide (irSite w = s.settings.site)) && decide (irKey w ≤ 15)) = true) :
    WordPasses s w := by
  simp only [Bool.and_eq_true, Bool.or_eq_true, decide_eq_true_eq] at h
  exact ⟨h.1.1.1, by simpa [irCheckOk] using h.1.1.2, h.1.2, h.2⟩

/-- An accepted key is one whose word passes and continues no press. -/
theorem accepted (s : State) (w : IrWord) (key : Nat) (h : WordPasses s w) (hl : s.ir.lastValid = none)
    (hk : (w.extractLsb' 8 7).toNat = key) : AcceptedKey s s.now w key :=
  ⟨h, (fun ⟨_, h, _⟩ => by rw [hl] at h; cases h), hk⟩

theorem witness_DigitsAreStaged :
    AcceptedKey (baseU 0 0 {}) 10000000 0x2C410290 2 ∧ (baseU 0 0 {}).ir.mode = .idle ∧
    (∀ digits ∈ [2, 3],
      let s := baseU 0 0 { entering 24 digits with lastValid := none }
      (2 ≤ 9 ∧ s.ir.mode = .entering ∧ s.ir.staged = some { value := 24, digits := digits } ∧
        (digits < 3 ↔ digits = 2))) ∧
    AcceptedKey (baseU 0 0 { entering 24 3 with lastValid := none }) 10000000 0x2C410290 2 :=
  ⟨accepted _ _ _ (passes _ _ rfl) rfl rfl, by decide, by decide,
    accepted _ _ _ (passes _ _ rfl) rfl rfl⟩

theorem witness_KeysBeginSettingsWrite :
    (∀ value ∈ [240, 241],
      let s := baseU 0 0 { entering value 3 with lastValid := none }
      s.ir.mode = .entering ∧ s.ir.staged = some { value := value, digits := 3 } ∧ s.settings.site = 0) ∧
    (baseU 0x2C41 0 { entering 240 3 with lastValid := none }).settings.site ≠ 0 ∧ 240 ≤ 240 ∧ 240 < 241 ∧
    AcceptedKey (baseU 0 0 { entering 240 3 with lastValid := none }) 10000000 0x2C410A98 10 ∧
    AcceptedKey (baseU 0x2C41 0 { entering 240 3 with lastValid := none }) 10000000 0x2C410A98 10 ∧
    AcceptedKey (baseU 0 0 { entering 241 3 with lastValid := none }) 10000000 0x2C410A98 10 ∧
    AcceptedKey (baseU 0 0 {}) 10000000 0x2C410A98 10 ∧ (baseU 0 0 {}).ir.mode = .idle ∧
    AcceptedKey (baseU 0x2C41 24 {}) 10000000 0x2C410F9D 15 ∧ (baseU 0x2C41 24 {}).settings.site ≠ 0 ∧
    AcceptedKey (baseU 0 24 {}) 10000000 0x2C410F9D 15 ∧ (baseU 0 24 {}).settings.site = 0 :=
  ⟨by decide, by decide, by decide, by decide, accepted _ _ _ (passes _ _ rfl) rfl rfl,
    accepted _ _ _ (passes _ _ rfl) rfl rfl, accepted _ _ _ (passes _ _ rfl) rfl rfl,
    accepted _ _ _ (passes _ _ rfl) rfl rfl, rfl, accepted _ _ _ (passes _ _ rfl) rfl rfl, by decide,
    accepted _ _ _ (passes _ _ rfl) rfl rfl, rfl⟩

theorem witness_KeysActInEntry :
    AcceptedKey (baseU 0x2C41 0 {}) 10000000 0x2C410B99 11 ∧ AcceptedKey (baseU 0x2C41 0 {}) 10000000 0x2C410C9E 12 ∧
    AcceptedKey (baseU 0x2C41 0 {}) 10000000 0x2C410D9F 13 ∧
    (baseU 0x2C41 24 (entering 24 2)).ir.entryTimer = some 19000000 :=
  ⟨accepted _ _ _ (passes _ _ rfl) rfl rfl, accepted _ _ _ (passes _ _ rfl) rfl rfl,
    accepted _ _ _ (passes _ _ rfl) rfl rfl, rfl⟩

/-- A first word, and repeats 200 ms after the last word at and just before 3 s. -/
theorem witness_HeldRestartStarts :
    AcceptedKey (baseU 0x2C41 24 {}) 10000000 0x2C410E9C 14 ∧
    (∀ since ∈ [7000000, 7000001],
      let s := baseU 0x2C41 24 { holding since with lastValid := some { toggle := false, arrived := 9800000 } }
      WordPasses s 0x2C410E9C ∧ s.ir.press = some { key := 14, since := since } ∧ (since + 3000000 ≤ s.now ↔ since = 7000000)) ∧
    WordContinues (baseU 0x2C41 24 { lastValid := some { toggle := false, arrived := 9800000 } }) 10000000 0x2C410E9C :=
  ⟨accepted _ _ _ (passes _ _ rfl) rfl rfl, fun since h => ⟨passes _ _ rfl, rfl, by
      show since + 3000000 ≤ 10000000 ↔ _
      simp only [List.mem_cons, List.not_mem_nil, or_false] at h
      omega⟩,
    ⟨_, rfl, by decide, by decide⟩⟩

/-- A word in STORING, one with a wrong check, one of another site, one with key 16, and a repeat of key 2. -/
theorem witness_DiscardedWordsLeaveFlags :
    (baseU 0 0 { mode := .storing }).ir.mode = .storing ∧ (baseU 0x2C41 0 {}).ir.mode ≠ .storing ∧
    ¬irCheckOk 0x2C410291 = true ∧
    (irCheckOk 0x5E0702A4 = true ∧ ¬((baseU 0x2C41 0 {}).settings.site = 0 ∨
      (0x5E0702A4#32).extractLsb' 16 16 = (baseU 0x2C41 0 {}).settings.site)) ∧
    (irCheckOk 0x2C411082 = true ∧ 15 < irKey 0x2C411082) ∧
    (irCheckOk 0x2C410290 = true ∧ irKey 0x2C410290 = 2 ∧
      (baseU 0x2C41 0 { lastValid := some { toggle := false, arrived := 9800000 } }).ir.lastValid
        = some { toggle := false, arrived := 9800000 } ∧
      false = (0x2C410290#32).getLsbD 15 ∧ 10000000 ≤ 9800000 + 200000) := by decide

theorem witness_SettingsWriteEnds :
    let s := baseU 0 0 { mode := .storing, write := some { site := 0x2C41, address := 240, endsAt := 10040000 } }
    s.supply.phase = .running ∧ s.ir.write = some { site := 0x2C41, address := 240, endsAt := 10040000 } ∧ 240 ≤ 240 ∧
    (0xF0 : Byte) = BitVec.ofNat 8 240 ∧
    (0x62 : Byte) = ~~~((0x2C41 : Site).extractLsb' 8 8 ^^^ (0x2C41 : Site).extractLsb' 0 8 ^^^ BitVec.ofNat 8 240) := by decide

theorem witness_LatchAndLedTimersRunOut :
    { stationK with head := { stationK.head with testedLatch := some 444400000 } }.head.testedLatch = some 444400000 ∧
    ({ feedback := some { kind := .error, endsAt := 411000000 } } : Indicator).feedback.isSome = true ∧
    ({ identify := some 430000000 } : Indicator).identify = some 430000000 ∧ stationK.supply.phase = .running := by decide

end Sys2Proof.Tests
end

section
/-! SUPPORT. The address conflict (R80, R81) as an invariant. `ConflictFits` says that the conflict shown is the one that
`conflictOf` computes from the own address and the entries. So an operation keeps it that touches neither of the two, that
evaluates the conflict afterwards, or that gives the entries nothing but other figures. The invariant reads no other field:
where an operation writes only others, the invariant before it is by itself the proof of the one after it. -/

namespace Sys2Proof.Machine

/-! ### What the evaluation computes (R80, R81) -/

theorem conflictOf_eq_none (a : Nat) (es : List Entry) :
    conflictOf a es = none ↔ a = 0 ∨ ∀ e ∈ es, ¬ConflictsWith a e := by
  by_cases ha : a = 0
  · simp [conflictOf, ha]
  · simp [conflictOf, ha, ConflictsWith]

theorem conflictOf_eq_some (a : Nat) (es : List Entry) (x : Serial) :
    conflictOf a es = some x ↔ a ≠ 0 ∧ ∃ front e back, es = front ++ e :: back ∧ e.serial = x ∧ ConflictsWith a e ∧
      ∀ y ∈ front, ¬ConflictsWith a y := by
  by_cases ha : a = 0
  · simp [conflictOf, ha]
  · simp only [conflictOf, ha, if_false, Option.map_eq_some_iff, List.find?_eq_some_iff_append, decide_eq_true_eq,
      Bool.not_eq_true', decide_eq_false_iff_not, ne_eq, not_false_eq_true, true_and]
    constructor
    · rintro ⟨e, ⟨he, front, back, hes, hfront⟩, hx⟩
      exact ⟨front, e, back, hes, hx, he, hfront⟩
    · rintro ⟨front, e, back, hes, hx, he, hfront⟩
      exact ⟨e, ⟨he, front, back, hes, hfront⟩, hx⟩

/-- The invariant says that the conflict is evaluated. -/
theorem conflictFits_iff (s : State) :
    ConflictFits s ↔ s.roster.conflict = conflictOf s.settings.address s.roster.entries := by
  unfold ConflictFits
  cases s.roster.conflict with
  | none => exact (conflictOf_eq_none _ _).symm.trans eq_comm
  | some x => exact (conflictOf_eq_some _ _ x).symm.trans eq_comm

/-! ### Entries that conflict alike -/

/-- Two entries that no evaluation of the conflict tells apart: figures, ages and all else may differ. -/
def ConflictAlike (a b : Entry) : Prop := a.serial = b.serial ∧ a.state = b.state ∧ a.address = b.address

theorem conflictOf_map (a : Nat) (f : Entry → Entry) (es : List Entry) (hf : ∀ e ∈ es, ConflictAlike (f e) e) :
    conflictOf a (es.map f) = conflictOf a es := by
  unfold conflictOf
  split
  · rfl
  · induction es with
    | nil => rfl
    | cons e es ih =>
      obtain ⟨hserial, hstate, haddress⟩ := hf e List.mem_cons_self
      have htail := ih fun x hx => hf x (List.mem_cons_of_mem _ hx)
      by_cases he : e.state = .live ∧ e.address = a
      · simp [hstate, haddress, he, hserial]
      · simpa [hstate, haddress, he] using htail

theorem classified_alike (s : State) (e : Entry) : ConflictAlike (classified s e) e := ⟨rfl, rfl, rfl⟩

theorem withoutFigures_alike (e : Entry) : ConflictAlike e.withoutFigures e := ⟨rfl, rfl, rfl⟩

/-- Where no two entries have one serial, the serial names the entry (R64). -/
theorem entry_eq_of_serial_eq (es : List Entry) (hes : es.Pairwise fun x y => x.serial ≠ y.serial) {a b : Entry}
    (ha : a ∈ es) (hb : b ∈ es) (hserial : a.serial = b.serial) : a = b := by
  induction es with
  | nil => cases ha
  | cons e es ih =>
    obtain ⟨hfirst, hrest⟩ := List.pairwise_cons.1 hes
    rcases List.mem_cons.1 ha with rfl | ha' <;> rcases List.mem_cons.1 hb with rfl | hb'
    · rfl
    · exact absurd hserial (hfirst b hb')
    · exact absurd hserial.symm (hfirst a ha')
    · exact ih hrest ha' hb'

/-- Where no two entries have one serial, replacing an entry by one alike leaves every place alike. -/
theorem conflictOf_replaceEntry (a : Nat) (es : List Entry) (e e' : Entry)
    (hes : es.Pairwise fun x y => x.serial ≠ y.serial) (he : e ∈ es) (halike : ConflictAlike e' e) :
    conflictOf a (replaceEntry e' es) = conflictOf a es := by
  refine conflictOf_map a _ es fun x hx => ?_
  by_cases hserial : x.serial = e'.serial
  · have hxe : x = e := entry_eq_of_serial_eq es hes hx he (hserial.trans halike.1)
    rw [if_pos hserial, hxe]
    exact halike
  · rw [if_neg hserial]
    exact ⟨rfl, rfl, rfl⟩

namespace ConflictFits

variable {s : State}

/-! ### The three ways to keep the invariant -/

/-- The roster and the own address stay. -/
theorem of_frame {t : State} (h : ConflictFits s) (hroster : t.roster = s.roster)
    (haddress : t.settings.address = s.settings.address) : ConflictFits t := by
  unfold ConflictFits at *
  rwa [hroster, haddress]

/-- The conflict is evaluated, whatever it was before. -/
theorem evaluateConflict_fits (s : State) : ConflictFits (evaluateConflict s) := by
  rw [conflictFits_iff, evaluateConflict_eq]

/-- The entries become others among which the evaluation finds the same. -/
theorem withEntries_fits (h : ConflictFits s) (es : List Entry)
    (hes : conflictOf s.settings.address es = conflictOf s.settings.address s.roster.entries) :
    ConflictFits (s.withEntries es) := by
  rw [conflictFits_iff] at *
  exact h.trans hes.symm

/-! ### Commands that wait for a condition -/

theorem done_fits {u : State} (hu : done s = .next u) (h : ConflictFits s) : ConflictFits u := by
  cases hu
  exact h.of_frame (by simp) (by simp)

theorem ite_fits {t : State} (p : Prop) [Decidable p] (ht : ConflictFits t) (h : ConflictFits s) :
    ConflictFits (if p then t else s) := by
  split <;> assumption

/-- What a command leaves that acts only while the station runs. -/
theorem running_fits {f : State → State} {u : State} (hu : done (whenRunning f s) = .next u) (h : ConflictFits s)
    (hf : ConflictFits (f s)) : ConflictFits u :=
  done_fits hu (ite_fits _ hf h)

theorem onExpiry_fits {f : State → State} (timer : Timer) (h : ConflictFits s)
    (hf : ∀ d, ConflictFits (f (s.advance d))) : ConflictFits (onExpiry timer f s) := by
  cases timer with
  | none => exact h
  | some d => exact hf d

theorem onPhaseEnd_fits {f : State → State} (phase : Phase) (h : ConflictFits s)
    (hf : ∀ d, ConflictFits (f (s.advance d))) : ConflictFits (onPhaseEnd phase f s) :=
  ite_fits _ (onExpiry_fits _ h hf) h

theorem headEvent_fits {f : State → State} (hf : ConflictFits (f s)) : ConflictFits (headEvent f s) :=
  ite_fits _ hf (of_frame hf (by simp) (by simp))

theorem onHeadTimer_fits {f : State → State} (state : HeadState) (h : ConflictFits s)
    (hf : ∀ x, ConflictFits x → ConflictFits (f x)) : ConflictFits (onHeadTimer state f s) :=
  ite_fits _ (onExpiry_fits _ h fun _ => headEvent_fits (hf _ h)) h

theorem acceptKey_fits {act : State → State} (key : Nat) (w : IrWord) (h : ConflictFits s)
    (hact : ∀ x, ConflictFits x → ConflictFits (act x)) : ConflictFits (acceptKey key w act s) :=
  of_frame (hact (s.withIr { s.ir with
      press := some { key := key, since := s.now }
      checkError := false, siteMismatch := false, overflow := false }) h)
    (by simp [acceptKey]) (by simp [acceptKey])

theorem onAccepted_fits {act : State → State} (wanted : Nat → Bool) (w : IrWord) (h : ConflictFits s)
    (hact : ∀ x, ConflictFits x → ConflictFits (act x)) : ConflictFits (onAccepted wanted w act s) := by
  unfold onAccepted
  cases judgeWord s w with
  | accepted key => exact ite_fits _ (acceptKey_fits key w h hact) h
  | overflow => exact h
  | checkError => exact h
  | siteMismatch => exact h
  | outOfRange => exact h
  | repeated key => exact h

/-! ### The roster's operations (04) -/

theorem refreshEntry_fits (via : Via) (m : Message) (e : Entry) (s : State) : ConflictFits (refreshEntry via m e s) :=
  evaluateConflict_fits _

/-- A newcomer is evaluated where it is entered; one that is refused leaves the entries (R77, R78). -/
theorem takeNewcomer_fits (sender : Serial) (via : Via) (m : Message) (h : ConflictFits s) :
    ConflictFits (takeNewcomer sender via m s) := by
  refine ite_fits _ (evaluateConflict_fits _) ?_
  cases oldestStale s.roster.entries with
  | none => exact h
  | some old => exact evaluateConflict_fits _

theorem takeIn_fits (sender : Serial) (via : Via) (m : Message) (h : ConflictFits s) :
    ConflictFits (takeIn sender via m s) := by
  unfold takeIn
  cases s.roster.find sender with
  | none => exact takeNewcomer_fits sender via m h
  | some e => exact refreshEntry_fits via m e s

theorem ageRoster_fits (s : State) : ConflictFits (ageRoster s) := evaluateConflict_fits _

theorem staleEntry_fits (serial : Serial) (h : ConflictFits s) : ConflictFits (staleEntry serial s) := by
  unfold staleEntry
  cases s.roster.find serial with
  | none => exact h
  | some e => exact evaluateConflict_fits _

theorem removeEntry_fits (serial : Serial) (h : ConflictFits s) : ConflictFits (removeEntry serial s) := by
  unfold removeEntry
  cases s.roster.find serial with
  | none => exact h
  | some e => exact ite_fits _ h (evaluateConflict_fits _)

theorem reclassifyAll_fits (h : ConflictFits s) : ConflictFits (reclassifyAll s) :=
  withEntries_fits h _ (conflictOf_map _ _ _ fun e _ => classified_alike s e)

/-- A merge writes figures alone; it replaces by serial, and so needs one entry for a serial (R64). -/
theorem mergePeer_fits (sender : Serial) (depth fraction : Nat) (h : ConflictFits s)
    (hserials : s.roster.entries.Pairwise fun a b => a.serial ≠ b.serial) :
    ConflictFits (mergePeer sender depth fraction s) := by
  unfold mergePeer
  cases hfind : s.roster.find sender with
  | none => exact h
  | some e =>
    refine withEntries_fits h _ (conflictOf_replaceEntry _ _ e _ hserials (List.mem_of_find?_eq_some hfind) ?_)
    split <;> exact ⟨rfl, rfl, rfl⟩

/-! ### The sounding unit (03) -/

theorem mergeOwn_fits (noted : Orientation) (depth fraction : Nat) (h : ConflictFits s) :
    ConflictFits (mergeOwn noted depth fraction s) :=
  ite_fits _ h (reclassifyAll_fits h)

theorem decideObservation_fits (r : TailReadings) (h : ConflictFits s)
    (hserials : s.roster.entries.Pairwise fun a b => a.serial ≠ b.serial) : ConflictFits (decideObservation r s) := by
  unfold decideObservation
  cases s.sounding.obs with
  | none => exact h
  | some o =>
    refine ite_fits _ h ?_
    cases rejection o.low (vSamples r) (iSamples o.noted r) with
    | some k => exact h
    | none =>
      unfold mergeObservation
      cases o.peer with
      | none => exact mergeOwn_fits _ _ _ h
      | some serial => exact mergePeer_fits _ _ _ h hserials

theorem endTail_fits (r : TailReadings) (h : ConflictFits s)
    (hserials : s.roster.entries.Pairwise fun a b => a.serial ≠ b.serial) : ConflictFits (endTail r s) := by
  have hdecided := ite_fits (s.observedEnd = s.tailEndsAt) (decideObservation_fits r h hserials) h
  exact ite_fits _ (hdecided.of_frame (by simp) (by simp)) hdecided

theorem clearFigures_fits (h : ConflictFits s) : ConflictFits (clearFigures s) :=
  reclassifyAll_fits (withEntries_fits h _ (conflictOf_map _ _ _ fun e _ => withoutFigures_alike e))

theorem changeOrientation_fits (after : Orientation) (h : ConflictFits s) : ConflictFits (changeOrientation after s) :=
  ite_fits _ (clearFigures_fits (h.of_frame (by simp) (by simp))) h

theorem takeReading_fits (reading : Int) (h : ConflictFits s) : ConflictFits (takeReading reading s) :=
  ite_fits _ h (ite_fits _ h (ite_fits _ (changeOrientation_fits _ h) h))

theorem readingAtTick_fits (through : Option Int) (h : ConflictFits s) : ConflictFits (readingAtTick through s) := by
  cases through with
  | none => exact h
  | some reading => exact takeReading_fits reading h

/-- The tick evaluates the conflict as it ages the roster; the two readings after it touch figures and the head alone. -/
theorem secondTick_fits (through : Option Int) (identity : BitVec 10) (s : State) :
    ConflictFits (secondTick through identity s) :=
  headEvent_fits (of_frame (readingAtTick_fits through (ageRoster_fits (countSecond s))) (by simp) (by simp))

/-! ### Reception (02) -/

theorem deliver_fits (sender : Serial) (via : Via) (m : Message) (h : ConflictFits s) :
    ConflictFits (deliver sender via m s) := by
  refine ite_fits _ h ?_
  cases m with
  | presence p => exact of_frame (takeIn_fits sender via (.presence p) h) (by simp) (by simp)
  | test address kind number typeTested =>
    exact of_frame (takeIn_fits sender via (.test address kind number typeTested) h) (by simp) (by simp)
  | query => exact h.of_frame (by simp) (by simp)
  | quiet => exact h.of_frame (by simp) (by simp)
  | reply => exact takeIn_fits sender via _ h

theorem takeReception_fits (r : Reception) (h : ConflictFits s) : ConflictFits (takeReception r s) := by
  cases r with
  | delivered sender via iDamaged m => exact deliver_fits sender via m h
  | foreign => exact h
  | discarded kind => exact h

theorem receiveIf_fits (wanted : Reception → Bool) (heard : Heard) (h : ConflictFits s) :
    ConflictFits (receiveIf wanted heard s) := by
  unfold receiveIf
  cases s.endedFrame heard with
  | some f => exact ite_fits _ (takeReception_fits _ h) h
  | none =>
    cases s.tailFrame heard with
    | some f => exact ite_fits _ (takeReception_fits _ h) h
    | none => exact h

/-! ### The line (01) -/

theorem decideAtIdle_fits (heard : Option Heard) (h : ConflictFits s) : ConflictFits (decideAtIdle heard s) := by
  cases heard with
  | none => exact h
  | some x => exact receiveIf_fits _ x h

theorem lineBecomesIdle_fits (heard : IdleHearing) (h : ConflictFits s) : ConflictFits (lineBecomesIdle heard s) :=
  ite_fits _ (of_frame (decideAtIdle_fits heard.frame (s := judgeIdle s) h) (by simp) (by simp)) h

theorem hearStart_fits (dip : Int) (h : ConflictFits s) : ConflictFits (hearStart dip s) :=
  ite_fits _ h (ite_fits _ h h)

theorem loseContention_fits (cell : Nat) (dip : Int) (h : ConflictFits s) :
    ConflictFits (loseContention cell dip s) := by
  unfold loseContention
  cases s.sender.outgoing with
  | none => exact h
  | some o => exact ite_fits _ (h.of_frame (by simp) (by simp)) h

theorem meetMismatch_fits (half : Nat) (dips : CellDips) (h : ConflictFits s) :
    ConflictFits (meetMismatch half dips s) := by
  unfold meetMismatch
  cases s.sender.outgoing with
  | none => exact h
  | some o => exact ite_fits _ (h.of_frame (by simp) (by simp)) h

theorem winContention_fits (h : ConflictFits s) : ConflictFits (winContention s) := by
  unfold winContention
  cases s.sender.outgoing with
  | none => exact h
  | some o => exact ite_fits _ h h

theorem sendComplete_fits (h : ConflictFits s) : ConflictFits (sendComplete s) := by
  unfold sendComplete
  cases s.sender.outgoing with
  | none => exact h
  | some o => exact ite_fits _ (h.of_frame (by simp) (by simp)) h

theorem beginOwnTail_fits (h : ConflictFits s) : ConflictFits (beginOwnTail s) := h.of_frame (by simp) (by simp)

theorem lockSink_fits (h : ConflictFits s) : ConflictFits (lockSink s) := h.of_frame (by simp) (by simp)

/-! ### The presence scheduler and the isolator (06, 10) -/

theorem presenceDue_fits (h : ConflictFits s) : ConflictFits (presenceDue s) :=
  ite_fits _ h (h.of_frame (by simp) (by simp))

theorem endQuiet_fits (h : ConflictFits s) : ConflictFits (endQuiet s) := h.of_frame (by simp) (by simp)

theorem meetShort_fits (r : TailReadings) (h : ConflictFits s) : ConflictFits (meetShort r s) :=
  h.of_frame (by simp) (by simp)

theorem closeIsolator_fits (h : ConflictFits s) : ConflictFits (closeIsolator s) := h.of_frame (by simp) (by simp)

/-! ### The head supervisor (07) -/

theorem assertAlarm_fits (h : ConflictFits s) : ConflictFits (assertAlarm s) := h.of_frame (by simp) (by simp)

theorem releaseAlarm_fits (h : ConflictFits s) : ConflictFits (releaseAlarm s) := h.of_frame (by simp) (by simp)

theorem enterReady_fits (h : ConflictFits s) : ConflictFits (enterReady s) := h.of_frame (by simp) (by simp)

theorem confirmAlarm_fits (h : ConflictFits s) : ConflictFits (confirmAlarm s) := h.of_frame (by simp) (by simp)

theorem endResetting_fits (h : ConflictFits s) : ConflictFits (endResetting s) := h.of_frame (by simp) (by simp)

theorem endRecovering_fits (h : ConflictFits s) : ConflictFits (endRecovering s) := h.of_frame (by simp) (by simp)

theorem clearHead_fits (h : ConflictFits s) : ConflictFits (clearHead s) := h.of_frame (by simp) (by simp)

/-! ### Starts (10) -/

/-- In reset the roster is empty and nothing is shown, whatever address will be read (R88). -/
theorem enterReset_fits (s : State) : ConflictFits (enterReset s) := (conflictFits_iff _).2 rfl

theorem startFromCritical_fits (kept : Bool) (h : ConflictFits s) : ConflictFits (startFromCritical kept s) :=
  ite_fits _ h h

/-- The conflict is evaluated for the address read from the NV. -/
theorem loadSettings_fits (s : State) : ConflictFits (loadSettings s) := (conflictFits_iff _).2 rfl

/-! ### The IR entry port (11) -/

theorem pressDigit_fits (digit : Nat) (h : ConflictFits s) : ConflictFits (pressDigit digit s) :=
  h.of_frame (by simp) (by simp)

/-- A write that begins leaves the address in use (R181). -/
theorem beginWrite_fits (site : Site) (address : Nat) (h : ConflictFits s) : ConflictFits (beginWrite site address s) := h

theorem entryError_fits (h : ConflictFits s) : ConflictFits (entryError s) := h.of_frame (by simp) (by simp)

theorem pressEnter_fits (w : IrWord) (h : ConflictFits s) : ConflictFits (pressEnter w s) := by
  unfold pressEnter
  split
  · exact ite_fits _ (beginWrite_fits _ _ h) (entryError_fits h)
  · exact entryError_fits h

theorem pressSiteClear_fits (h : ConflictFits s) : ConflictFits (pressSiteClear s) :=
  ite_fits _ (entryError_fits h) (beginWrite_fits _ _ h)

theorem exemptRequest_fits (h : ConflictFits s) : ConflictFits (exemptRequest s) := h.of_frame (by simp) (by simp)

theorem pressClear_fits (h : ConflictFits s) : ConflictFits (pressClear s) :=
  of_frame (headEvent_fits (clearHead_fits h)) (by simp [pressClear]) (by simp [pressClear])

theorem pressRestart_fits (w : IrWord) (h : ConflictFits s) : ConflictFits (pressRestart w s) := by
  unfold pressRestart
  cases judgeWord s w with
  | accepted key => exact ite_fits _ (acceptKey_fits key w h fun _ hx => hx) h
  | repeated key => exact ite_fits _ (ite_fits _ (enterReset_fits s) h) h
  | overflow => exact h
  | checkError => exact h
  | siteMismatch => exact h
  | outOfRange => exact h

theorem discardWord_fits (w : IrWord) (h : ConflictFits s) : ConflictFits (discardWord w s) :=
  h.of_frame (by simp) (by simp)

/-- The conflict is evaluated for the address stored; what follows leaves roster and address (R181). -/
theorem completeWrite_fits (x : Write) (s : State) : ConflictFits (completeWrite x s) := by
  have hstored : ConflictFits (evaluateConflict { s with settings := { s.settings with
      record := programmed x, site := x.site, address := x.address, recovered := false } }) := evaluateConflict_fits _
  exact of_frame (ite_fits (x.address = s.settings.address) hstored (exemptRequest_fits hstored))
    (by simp [completeWrite]) (by simp [completeWrite])

theorem endWrite_fits (site : Site) (address check : Byte) (x : Write) (h : ConflictFits s) :
    ConflictFits (endWrite site address check x s) :=
  ite_fits _ (completeWrite_fits x s) h

theorem settingsWrite_fits (site : Site) (address check : Byte) {u : State} (h : ConflictFits s)
    (hu : execSettingsWrite site address check s = .next u) : ConflictFits u := by
  refine running_fits hu h ?_
  cases s.ir.write with
  | none => exact h
  | some x => exact endWrite_fits site address check x h

/-! ### Every command -/

/-- Every command keeps the invariant; the decision of a peer's tail alone needs that no two entries have one serial. -/
theorem exec_fits (c : Instr) {u : State} (hserials : s.roster.entries.Pairwise fun a b => a.serial ≠ b.serial)
    (h : ConflictFits s) (hu : exec c s = .next u) : ConflictFits u := by
  cases c with
  | lineIdle t heard => exact running_fits hu h (lineBecomesIdle_fits heard h)
  | startLeadingEdge t dip => exact running_fits hu h (hearStart_fits dip h)
  | contentionLost cell dip => exact running_fits hu h (loseContention_fits cell dip h)
  | sendMismatch half dips => exact running_fits hu h (meetMismatch_fits half dips h)
  | messageSent => exact running_fits hu h (sendComplete_fits h)
  | ownTailStart => exact running_fits hu h (ite_fits _ (onExpiry_fits _ h fun _ => beginOwnTail_fits h) h)
  | tailEnd r => exact running_fits hu h (onExpiry_fits _ h fun _ => endTail_fits r h hserials)
  | sinkLockout drawn => exact done_fits hu (ite_fits _ (lockSink_fits h) h)
  | presence t heard => exact running_fits hu h (receiveIf_fits _ heard h)
  | test t heard => exact running_fits hu h (receiveIf_fits _ heard h)
  | query t heard => exact running_fits hu h (receiveIf_fits _ heard h)
  | quiet t heard => exact running_fits hu h (receiveIf_fits _ heard h)
  | reply t heard => exact running_fits hu h (receiveIf_fits _ heard h)
  | frameDiscarded t heard => exact running_fits hu h (receiveIf_fits _ heard h)
  | secondTick through identity => exact running_fits hu h (onExpiry_fits _ h fun _ => secondTick_fits through identity _)
  | orientationChange t reading => exact running_fits hu h (takeReading_fits reading h)
  | entryStale serial => exact running_fits hu h (staleEntry_fits serial h)
  | entryRemoved serial => exact running_fits hu h (removeEntry_fits serial h)
  | presenceTimerExpiry => exact running_fits hu h (onExpiry_fits _ h fun _ => presenceDue_fits h)
  | quietEnd => exact running_fits hu h (onExpiry_fits _ h fun _ => endQuiet_fits h)
  | alarmAsserted t => exact running_fits hu h (headEvent_fits (assertAlarm_fits h))
  | alarmReleased t => exact running_fits hu h (headEvent_fits (releaseAlarm_fits h))
  | settlingEnd => exact running_fits hu h (onHeadTimer_fits _ h fun _ => enterReady_fits)
  | confirmedAlarm => exact running_fits hu h (ite_fits _ (onHeadTimer_fits _ h fun _ => confirmAlarm_fits) h)
  | resettingEnd => exact running_fits hu h (onHeadTimer_fits _ h fun _ => endResetting_fits)
  | recoveringEnd => exact running_fits hu h (onHeadTimer_fits _ h fun _ => endRecovering_fits)
  | testedLatchExpiry => exact running_fits hu h (onExpiry_fits _ h fun _ => h)
  | shortCriterion t sides through r => exact running_fits hu h (ite_fits _ (meetShort_fits r h) h)
  | openWaitExpiry => exact running_fits hu h (ite_fits _ (onExpiry_fits _ h fun _ => h) h)
  | trialExpiry => exact running_fits hu h (ite_fits _ (onExpiry_fits _ h fun _ => closeIsolator_fits h) h)
  | bandLow t mV => exact done_fits hu (ite_fits _ h h)
  | bandNormal t mV => exact done_fits hu (ite_fits _ h h)
  | bandCritical t mV => exact done_fits hu (ite_fits _ (enterReset_fits _) h)
  | startBegin t mV kept => exact done_fits hu (ite_fits _ (startFromCritical_fits kept h) h)
  | clockSettle => exact done_fits hu (onPhaseEnd_fits _ h fun _ => h)
  | loadSettings => exact done_fits hu (onPhaseEnd_fits _ h fun _ => loadSettings_fits _)
  | selfTest heard r => exact done_fits hu (onPhaseEnd_fits _ h fun _ => h)
  | digit t w => exact running_fits hu h (onAccepted_fits _ w h fun _ => pressDigit_fits _)
  | enter t w => exact running_fits hu h (onAccepted_fits _ w h fun _ => pressEnter_fits w)
  | cancel t w => exact running_fits hu h (onAccepted_fits _ w h fun _ hx => hx)
  | sound t w => exact running_fits hu h (onAccepted_fits _ w h fun _ => exemptRequest_fits)
  | clear t w => exact running_fits hu h (onAccepted_fits _ w h fun _ => pressClear_fits)
  | restart t w => exact running_fits hu h (pressRestart_fits w h)
  | siteClear t w => exact running_fits hu h (onAccepted_fits _ w h fun _ => pressSiteClear_fits)
  | entryTimerExpiry => exact running_fits hu h (onExpiry_fits _ h fun _ => h)
  | settingsWrite site address check => exact settingsWrite_fits site address check h hu
  | irFeedbackEnd => exact running_fits hu h (onExpiry_fits _ h fun _ => h)
  | identifyTimerExpiry => exact running_fits hu h (onExpiry_fits _ h fun _ => h)
  | lastSerialCellSent => exact running_fits hu h (winContention_fits h)
  | irWordDiscarded t w => exact running_fits hu h (discardWord_fits w h)

end ConflictFits

/-- Settles O8: the roster holds one entry for a serial, and so the command at the front of the queue keeps the conflict
evaluated; on an empty queue nothing happens. -/
theorem conflictKept : Obligations.ConflictKept := by
  intro s u hroster h hstep
  cases hpending : s.pending with
  | nil =>
    simp only [step, hpending] at hstep
    cases hstep
    exact h
  | cons c rest =>
    simp only [step, hpending] at hstep
    exact ConflictFits.exec_fits c (s := { s with pending := rest }) hroster.oneForASerial h hstep

end Sys2Proof.Machine
end

section
/-! SUPPORT. The relations (R90 to R95) as an invariant. `RelationsFit` says that every entry holds the relation that
`relationOf` gives it under the own depth and SENSE_FAULT as they stand. So an operation keeps it that leaves these two and
the entries' figures, that classifies each entry whose figures it changes (R93), or that classifies them all when an own
figure changes (R94). Where an operation writes only other fields, the invariant before it is by itself the proof of the one
after it. -/

namespace Sys2Proof.Machine

/-! ### What the classifier computes (R89 to R92) -/

/-- What a choice of the classifier gives. -/
theorem relation_eq_ite_iff (p : Prop) [Decidable p] (r a b : Relation) :
    (r = if p then a else b) ↔ p ∧ r = a ∨ ¬p ∧ r = b := by
  by_cases h : p
  · simp only [h, if_true, true_and, not_true, false_and, or_false]
  · simp only [h, if_false, false_and, not_false_eq_true, true_and, false_or]

/-- The classifier gives the relation of R91 and R92, and none beside it: the tolerance's integer comparisons are those of
the naturals, and the through fraction lies in one of the three ranges. -/
theorem relationOfFigures_iff (d k x phi : Nat) (r : Relation) :
    r = relationOfFigures d k x phi ↔ RelationIs d k x phi r := by
  have hdownstream : ((d : Int) - tolerance d k ≤ x ∧ (x : Int) ≤ d + tolerance d k ∧ (d : Int) - tolerance d k ≤ k) ↔
      (d ≤ x + (5 + max d k / 100) ∧ x ≤ d + (5 + max d k / 100) ∧ d ≤ k + (5 + max d k / 100)) := by
    unfold tolerance; omega
  have hbranched : (x : Int) < (min d k : Nat) - tolerance d k ↔ x + (5 + max d k / 100) < min d k := by
    unfold tolerance; omega
  have hupstream : ((x : Int) - k ≤ tolerance d k ∧ (k : Int) - x ≤ tolerance d k ∧ (k : Int) ≤ d + tolerance d k) ↔
      (x ≤ k + (5 + max d k / 100) ∧ k ≤ x + (5 + max d k / 100) ∧ k ≤ d + (5 + max d k / 100)) := by
    unfold tolerance; omega
  have hside : phi ≤ 250 ↔ ¬(250 < phi ∧ phi < 750) ∧ ¬750 ≤ phi := by omega
  have hfar : 750 ≤ phi → ¬(250 < phi ∧ phi < 750) := by omega
  simp only [relationOfFigures, RelationIs, hdownstream, hbranched, hupstream, hside, relation_eq_ite_iff,
    ← and_assoc (c := r = .split)]
  by_cases hmiddle : 250 < phi ∧ phi < 750
  · have hnotFar : ¬750 ≤ phi := fun h => hfar h hmiddle
    simp [hmiddle, hnotFar]
  · by_cases hhigh : 750 ≤ phi
    · simp only [hmiddle, hhigh]
      simp
    · simp only [hmiddle, hhigh]
      simp [and_or_left]

/-- An entry holds the relation that its figures give under the own figures of `s`. -/
def HoldsRelation (s : State) (e : Entry) : Prop := e.relation = relationOf s.sounding.senseFault s.sounding.ownDepth e

theorem relationOf_absent {fault : Bool} {own : Option Nat} {e : Entry}
    (h : fault = true ∨ own = none ∨ e.depth = none ∨ e.shared = none ∨ e.through = none) :
    relationOf fault own e = .unmeasured := by
  unfold relationOf
  split
  · simp_all
  · rfl

theorem relationOf_present {fault : Bool} {own : Option Nat} {e : Entry} {d k x phi : Nat} (hfault : fault = false)
    (hown : own = some d) (hdepth : e.depth = some k) (hshared : e.shared = some x) (hthrough : e.through = some phi) :
    relationOf fault own e = relationOfFigures d k x phi := by
  simp only [relationOf, hfault, hown, hdepth, hshared, hthrough]

/-- The invariant says that every entry is classified. -/
theorem relationsFit_iff (s : State) : RelationsFit s ↔ ∀ e ∈ s.roster.entries, HoldsRelation s e := by
  refine forall₂_congr fun e _ => ⟨?_, fun h => ⟨fun habsent => h.trans (relationOf_absent habsent), ?_⟩⟩
  · rintro ⟨habsent, hpresent⟩
    by_cases h : s.sounding.senseFault = true ∨ s.sounding.ownDepth = none ∨ e.depth = none ∨ e.shared = none ∨
        e.through = none
    · exact (habsent h).trans (relationOf_absent h).symm
    · simp only [not_or, Bool.not_eq_true, Option.ne_none_iff_exists', ← ne_eq] at h
      obtain ⟨hfault, ⟨d, hown⟩, ⟨k, hdepth⟩, ⟨x, hshared⟩, ⟨phi, hthrough⟩⟩ := h
      exact ((relationOfFigures_iff d k x phi _).2 (hpresent d k x phi hfault hown hdepth hshared hthrough)).trans
        (relationOf_present hfault hown hdepth hshared hthrough).symm
  · intro d k x phi hfault hown hdepth hshared hthrough
    exact (relationOfFigures_iff d k x phi _).1 (h.trans (relationOf_present hfault hown hdepth hshared hthrough))

theorem classified_holds (s : State) (e : Entry) : HoldsRelation s (classified s e) := rfl

/-- The relation reads nothing of its entry but the announced depth, S and Φ (R91). -/
theorem HoldsRelation.of_sameFigures {s : State} {e e' : Entry} (h : HoldsRelation s e)
    (hrelation : e'.relation = e.relation) (hdepth : e'.depth = e.depth) (hshared : e'.shared = e.shared)
    (hthrough : e'.through = e.through) : HoldsRelation s e' := by
  unfold HoldsRelation relationOf at *
  rwa [hrelation, hdepth, hshared, hthrough]

/-! ### Entries put into the roster -/

theorem replaceEntry_holds {s : State} {e' : Entry} {es : List Entry} (he' : HoldsRelation s e')
    (hes : ∀ e ∈ es, HoldsRelation s e) : ∀ e ∈ replaceEntry e' es, HoldsRelation s e := by
  intro e he
  obtain ⟨x, hx, rfl⟩ := List.mem_map.1 he
  split
  · exact he'
  · exact hes x hx

theorem placeEntry_holds {s : State} {e' : Entry} {es : List Entry} (he' : HoldsRelation s e')
    (hes : ∀ e ∈ es, HoldsRelation s e) : ∀ e ∈ placeEntry e' es, HoldsRelation s e := by
  intro e he
  rcases (mem_place e' e es).1 he with rfl | hmem
  · exact he'
  · exact hes e hmem

theorem dropSerial_holds {s : State} (serial : Serial) {es : List Entry} (hes : ∀ e ∈ es, HoldsRelation s e) :
    ∀ e ∈ dropSerial serial es, HoldsRelation s e :=
  fun e he => hes e ((mem_drop serial e es).1 he).1

theorem settleState_holds {s : State} {e : Entry} (h : HoldsRelation s e) : HoldsRelation s e.settleState := by
  unfold Entry.settleState
  split
  · exact h
  · exact h

/-- A message writes no figure but the announced depth (R68 to R70). -/
theorem refreshed_holds {s : State} (via : Via) (m : Message) {e : Entry} (h : HoldsRelation s e)
    (hdepth : (refreshed via m e).depth = e.depth) : HoldsRelation s (refreshed via m e) := by
  refine h.of_sameFigures ?_ hdepth ?_ ?_ <;> cases m <;> rfl

/-! ### Commands that wait for a condition

What an operation that may do nothing leaves, of any property: the property before it, where it does nothing, and what its
act leaves. -/

section Waiting

variable {P : State → Prop} {s : State}

theorem ite_keeps {t : State} (p : Prop) [Decidable p] (ht : P t) (h : P s) : P (if p then t else s) := by
  split <;> assumption

theorem onExpiry_keeps {f : State → State} (timer : Timer) (h : P s) (hf : ∀ d, P (f (s.advance d))) :
    P (onExpiry timer f s) := by
  cases timer with
  | none => exact h
  | some d => exact hf d

theorem onPhaseEnd_keeps {f : State → State} (phase : Phase) (h : P s) (hf : ∀ d, P (f (s.advance d))) :
    P (onPhaseEnd phase f s) :=
  ite_keeps _ (onExpiry_keeps _ h hf) h

theorem onAccepted_keeps {act : State → State} (wanted : Nat → Bool) (w : IrWord) (h : P s)
    (hact : ∀ key, P (acceptKey key w act s)) : P (onAccepted wanted w act s) := by
  unfold onAccepted
  cases judgeWord s w with
  | accepted key => exact ite_keeps _ (hact key) h
  | overflow => exact h
  | checkError => exact h
  | siteMismatch => exact h
  | outOfRange => exact h
  | repeated key => exact h

end Waiting

namespace RelationsFit

variable {s : State}

/-! ### The ways to keep the invariant -/

/-- The entries, SENSE_FAULT and the own depth stay. -/
theorem of_figures {t : State} (h : RelationsFit s) (hentries : t.roster.entries = s.roster.entries)
    (hfault : t.sounding.senseFault = s.sounding.senseFault) (hdepth : t.sounding.ownDepth = s.sounding.ownDepth) :
    RelationsFit t := by
  unfold RelationsFit at *
  rwa [hentries, hfault, hdepth]

/-- The roster and the sounding unit stay. -/
theorem of_frame {t : State} (h : RelationsFit s) (hroster : t.roster = s.roster) (hsounding : t.sounding = s.sounding) :
    RelationsFit t :=
  h.of_figures (by rw [hroster]) (by rw [hsounding]) (by rw [hsounding])

/-- The conflict is no figure (R80). -/
theorem evaluateConflict_fits (h : RelationsFit s) : RelationsFit (evaluateConflict s) :=
  h.of_figures (by simp [evaluateConflict_eq]) (by simp) (by simp)

/-- The entries become others that hold their relations. -/
theorem withEntries_fits {es : List Entry} (hes : ∀ e ∈ es, HoldsRelation s e) : RelationsFit (s.withEntries es) :=
  (relationsFit_iff (s.withEntries es)).2 hes

/-- Every entry is classified, whatever it held before (R94). -/
theorem reclassifyAll_fits (s : State) : RelationsFit (reclassifyAll s) :=
  withEntries_fits fun e he => by
    obtain ⟨x, -, rfl⟩ := List.mem_map.1 he
    exact classified_holds s x

theorem entries_hold (h : RelationsFit s) : ∀ e ∈ s.roster.entries, HoldsRelation s e := (relationsFit_iff s).1 h

theorem found_holds (h : RelationsFit s) {serial : Serial} {e : Entry} (hfind : s.roster.find serial = some e) :
    HoldsRelation s e :=
  h.entries_hold e (List.mem_of_find?_eq_some hfind)

/-- What a command answers whose effect keeps the invariant. -/
theorem done_fits {u : State} (hu : done s = .next u) (h : RelationsFit s) : RelationsFit u := by
  cases hu
  exact h.of_frame (by simp) (by simp)

/-- What a command leaves that acts only while the station runs. -/
theorem running_fits {f : State → State} {u : State} (hu : done (whenRunning f s) = .next u) (h : RelationsFit s)
    (hf : RelationsFit (f s)) : RelationsFit u :=
  done_fits hu (ite_keeps _ hf h)

theorem headEvent_fits {f : State → State} (hf : RelationsFit (f s)) : RelationsFit (headEvent f s) :=
  ite_keeps _ hf (of_frame hf (by simp) (by simp))

theorem onHeadTimer_fits {f : State → State} (state : HeadState) (h : RelationsFit s)
    (hf : ∀ x, RelationsFit x → RelationsFit (f x)) : RelationsFit (onHeadTimer state f s) :=
  ite_keeps _ (onExpiry_keeps _ h fun d => headEvent_fits (hf (s.advance d) h)) h

theorem acceptKey_fits {act : State → State} (key : Nat) (w : IrWord) (h : RelationsFit s)
    (hact : ∀ x, RelationsFit x → RelationsFit (act x)) : RelationsFit (acceptKey key w act s) :=
  of_frame (hact (s.withIr { s.ir with
      press := some { key := key, since := s.now }
      checkError := false, siteMismatch := false, overflow := false }) h)
    (by simp [acceptKey]) (by simp [acceptKey])

theorem pressed_fits {act : State → State} (wanted : Nat → Bool) (w : IrWord) (h : RelationsFit s)
    (hact : ∀ x, RelationsFit x → RelationsFit (act x)) : RelationsFit (onAccepted wanted w act s) :=
  onAccepted_keeps wanted w h fun key => acceptKey_fits key w h hact

/-! ### The roster's operations (04) -/

/-- A message that changes the announced depth has the entry classified, and one that does not leaves its figures (R93). -/
theorem refreshEntry_fits (via : Via) (m : Message) {e : Entry} (h : RelationsFit s) (he : HoldsRelation s e) :
    RelationsFit (refreshEntry via m e s) := by
  refine evaluateConflict_fits (withEntries_fits ?_)
  split
  case isTrue hdepth => exact replaceEntry_holds (refreshed_holds via m he hdepth) h.entries_hold
  case isFalse => exact placeEntry_holds (classified_holds s _) (dropSerial_holds e.serial h.entries_hold)

/-- A newcomer is classified as it is entered (R71, R93). -/
theorem enterAmong_fits {es : List Entry} (sender : Serial) (via : Via) (m : Message)
    (hes : ∀ e ∈ es, HoldsRelation s e) : RelationsFit (enterAmong es sender via m s) :=
  evaluateConflict_fits (withEntries_fits (placeEntry_holds (classified_holds s _) hes))

theorem takeNewcomer_fits (sender : Serial) (via : Via) (m : Message) (h : RelationsFit s) :
    RelationsFit (takeNewcomer sender via m s) := by
  refine ite_keeps _ (enterAmong_fits sender via m h.entries_hold) ?_
  cases oldestStale s.roster.entries with
  | none => exact h
  | some old => exact enterAmong_fits sender via m (dropSerial_holds old.serial h.entries_hold)

theorem takeIn_fits (sender : Serial) (via : Via) (m : Message) (h : RelationsFit s) :
    RelationsFit (takeIn sender via m s) := by
  unfold takeIn
  cases hfind : s.roster.find sender with
  | none => exact takeNewcomer_fits sender via m h
  | some e => exact refreshEntry_fits via m h (h.found_holds hfind)

theorem afterRemoval_fits {es : List Entry} (hes : ∀ e ∈ es, HoldsRelation s e) : RelationsFit (afterRemoval es s) :=
  evaluateConflict_fits ((relationsFit_iff _).2 hes)

/-- Ageing and removal touch no figure (R74 to R76). -/
theorem ageRoster_fits (h : RelationsFit s) : RelationsFit (ageRoster s) := by
  refine afterRemoval_fits fun e he => ?_
  obtain ⟨hsettled, -⟩ := List.mem_filter.1 he
  obtain ⟨aged, haged, rfl⟩ := List.mem_map.1 hsettled
  obtain ⟨x, hx, rfl⟩ := List.mem_map.1 haged
  exact settleState_holds (h.entries_hold x hx)

theorem staleEntry_fits (serial : Serial) (h : RelationsFit s) : RelationsFit (staleEntry serial s) := by
  unfold staleEntry
  cases hfind : s.roster.find serial with
  | none => exact h
  | some e =>
    exact evaluateConflict_fits
      (withEntries_fits (replaceEntry_holds (settleState_holds (h.found_holds hfind)) h.entries_hold))

theorem removeEntry_fits (serial : Serial) (h : RelationsFit s) : RelationsFit (removeEntry serial s) := by
  unfold removeEntry
  cases s.roster.find serial with
  | none => exact h
  | some e => exact ite_keeps _ h (afterRemoval_fits (dropSerial_holds serial h.entries_hold))

/-- A merge that changes S or Φ has the entry classified; one that changes neither leaves its relation (R93). -/
theorem mergePeer_fits (sender : Serial) (depth fraction : Nat) (h : RelationsFit s) :
    RelationsFit (mergePeer sender depth fraction s) := by
  unfold mergePeer
  cases hfind : s.roster.find sender with
  | none => exact h
  | some e =>
    refine withEntries_fits (replaceEntry_holds ?_ h.entries_hold)
    split
    case isTrue hsame =>
      obtain ⟨hshared, hthrough⟩ := hsame
      exact (h.found_holds hfind).of_sameFigures rfl rfl hshared hthrough
    case isFalse => exact classified_holds s _

/-! ### The sounding unit (03) -/

/-- An own merge that changes the own depth or SENSE_FAULT has every entry classified (R94). -/
theorem mergeOwn_fits (noted : Orientation) (depth fraction : Nat) (h : RelationsFit s) :
    RelationsFit (mergeOwn noted depth fraction s) := by
  unfold mergeOwn
  dsimp only
  split
  case isTrue hsame =>
    obtain ⟨hdepth, hfault⟩ := hsame
    exact h.of_figures rfl hfault hdepth
  case isFalse => exact reclassifyAll_fits _

theorem decideObservation_fits (r : TailReadings) (h : RelationsFit s) : RelationsFit (decideObservation r s) := by
  unfold decideObservation
  cases s.sounding.obs with
  | none => exact h
  | some o =>
    refine ite_keeps _ h ?_
    cases rejection o.low (vSamples r) (iSamples o.noted r) with
    | some k => exact h
    | none =>
      unfold mergeObservation
      cases o.peer with
      | none => exact mergeOwn_fits _ _ _ h
      | some serial => exact mergePeer_fits _ _ _ h

theorem observe_fits (o : Observation) (h : RelationsFit s) : RelationsFit (observe o s) := ite_keeps _ h h

/-- An observation cut off leaves its samples in the store and no figure (R44, R45). -/
theorem abandon_fits (r : TailReadings) (h : RelationsFit s) : RelationsFit (abandon r s) := by
  unfold abandon
  cases s.sounding.obs with
  | none => exact h
  | some o => exact h

theorem truncate_fits (r : TailReadings) (h : RelationsFit s) : RelationsFit (truncate r s) := by
  unfold truncate
  cases s.sounding.obs with
  | none => exact h
  | some o => exact ite_keeps _ h (ite_keeps _ h h)

theorem endTail_fits (r : TailReadings) (h : RelationsFit s) : RelationsFit (endTail r s) := by
  have hdecided := ite_keeps (s.observedEnd = s.tailEndsAt) (decideObservation_fits r h) h
  exact ite_keeps _ (hdecided.of_frame (by simp) (by simp)) hdecided

/-- A flip has every entry classified, after the own merge it takes back too (R85, R94). -/
theorem changeOrientation_fits (after : Orientation) (h : RelationsFit s) : RelationsFit (changeOrientation after s) :=
  ite_keeps _ (reclassifyAll_fits _) h

theorem takeReading_fits (reading : Int) (h : RelationsFit s) : RelationsFit (takeReading reading s) :=
  ite_keeps _ h (ite_keeps _ h (ite_keeps _ (changeOrientation_fits (s := noteReading s) _ h) h))

theorem readingAtTick_fits (through : Option Int) (h : RelationsFit s) : RelationsFit (readingAtTick through s) := by
  cases through with
  | none => exact h
  | some reading => exact takeReading_fits reading h

theorem secondTick_fits (through : Option Int) (identity : BitVec 10) (h : RelationsFit s) :
    RelationsFit (secondTick through identity s) :=
  headEvent_fits (of_frame (readingAtTick_fits through (ageRoster_fits (s := countSecond s) h)) (by simp) (by simp))

/-! ### Reception (02) -/

theorem hearTail_fits (sender : Serial) (p : PresenceIn) (h : RelationsFit s) : RelationsFit (hearTail sender p s) :=
  ite_keeps _ (observe_fits _ h) h

theorem deliver_fits (sender : Serial) (via : Via) (m : Message) (h : RelationsFit s) :
    RelationsFit (deliver sender via m s) := by
  refine ite_keeps _ h ?_
  cases m with
  | presence p => exact hearTail_fits sender p (takeIn_fits sender via (.presence p) h)
  | test address kind number typeTested =>
    exact of_frame (takeIn_fits sender via (.test address kind number typeTested) h) (by simp) (by simp)
  | query => exact h.of_frame (by simp) (by simp)
  | quiet => exact h.of_frame (by simp) (by simp)
  | reply => exact takeIn_fits sender via _ h

theorem takeReception_fits (r : Reception) (h : RelationsFit s) : RelationsFit (takeReception r s) := by
  cases r with
  | delivered sender via iDamaged m => exact deliver_fits sender via m h
  | foreign => exact h
  | discarded kind => exact h

theorem receiveIf_fits (wanted : Reception → Bool) (heard : Heard) (h : RelationsFit s) :
    RelationsFit (receiveIf wanted heard s) := by
  unfold receiveIf
  cases s.endedFrame heard with
  | some f => exact ite_keeps _ (takeReception_fits _ h) h
  | none =>
    cases s.tailFrame heard with
    | some f => exact ite_keeps _ (takeReception_fits _ h) h
    | none => exact h

/-! ### The line (01) -/

theorem decideAtIdle_fits (heard : Option Heard) (h : RelationsFit s) : RelationsFit (decideAtIdle heard s) := by
  cases heard with
  | none => exact h
  | some x => exact receiveIf_fits _ x h

theorem lineBecomesIdle_fits (heard : IdleHearing) (h : RelationsFit s) : RelationsFit (lineBecomesIdle heard s) := by
  have htruncated := truncate_fits heard.tail (decideAtIdle_fits (s := judgeIdle s) heard.frame h)
  exact ite_keeps _ (htruncated.of_frame (by simp) (by simp)) h

theorem hearStart_fits (dip : Int) (h : RelationsFit s) : RelationsFit (hearStart dip s) :=
  ite_keeps _ h (ite_keeps _ h h)

theorem loseContention_fits (cell : Nat) (dip : Int) (h : RelationsFit s) : RelationsFit (loseContention cell dip s) := by
  unfold loseContention
  cases s.sender.outgoing with
  | none => exact h
  | some o => exact ite_keeps _ (h.of_frame (by simp) (by simp)) h

theorem meetMismatch_fits (half : Nat) (dips : CellDips) (h : RelationsFit s) :
    RelationsFit (meetMismatch half dips s) := by
  unfold meetMismatch
  cases s.sender.outgoing with
  | none => exact h
  | some o => exact ite_keeps _ (h.of_frame (by simp) (by simp)) h

theorem winContention_fits (h : RelationsFit s) : RelationsFit (winContention s) := by
  unfold winContention
  cases s.sender.outgoing with
  | none => exact h
  | some o => exact ite_keeps _ h h

theorem sendComplete_fits (h : RelationsFit s) : RelationsFit (sendComplete s) := by
  unfold sendComplete
  cases s.sender.outgoing with
  | none => exact h
  | some o => exact ite_keeps _ (h.of_frame (by simp) (by simp)) h

/-! ### The isolator and the starts (10) -/

theorem meetShort_fits (r : TailReadings) (h : RelationsFit s) : RelationsFit (meetShort r s) := by
  unfold meetShort
  cases s.isolator.state with
  | closed => exact (abandon_fits (s := noteCrossing s) r h).of_frame (by simp [openIsolator]) (by simp [openIsolator])
  | trial => exact ite_keeps _ (h.of_frame (by simp) (by simp)) h
  | openWait => exact h
  | latched => exact h

/-- In reset the roster is empty (R88). -/
theorem enterReset_fits (s : State) : RelationsFit (enterReset s) := fun _ he => absurd he List.not_mem_nil

theorem startFromCritical_fits (kept : Bool) (h : RelationsFit s) : RelationsFit (startFromCritical kept s) :=
  ite_keeps _ h h

/-! ### The IR entry port (11) -/

theorem pressRestart_fits (w : IrWord) (h : RelationsFit s) : RelationsFit (pressRestart w s) := by
  unfold pressRestart
  cases judgeWord s w with
  | accepted key => exact ite_keeps _ (acceptKey_fits key w h fun _ hx => hx) h
  | repeated key => exact ite_keeps _ (ite_keeps _ (enterReset_fits s) h) h
  | overflow => exact h
  | checkError => exact h
  | siteMismatch => exact h
  | outOfRange => exact h

theorem exemptRequest_fits (h : RelationsFit s) : RelationsFit (exemptRequest s) := h.of_frame (by simp) (by simp)

theorem pressClear_fits (h : RelationsFit s) : RelationsFit (pressClear s) := by
  have hcleared : RelationsFit (clearHead s) := h.of_frame (by simp) (by simp)
  exact of_frame (headEvent_fits hcleared) (by simp [pressClear]) (by simp [pressClear])

/-- A write that completes has the conflict evaluated for the address stored; it touches no figure (R181). -/
theorem completeWrite_fits (x : Write) (h : RelationsFit s) : RelationsFit (completeWrite x s) := by
  have hstored : RelationsFit (evaluateConflict { s with settings := { s.settings with
      record := programmed x, site := x.site, address := x.address, recovered := false } }) :=
    evaluateConflict_fits h
  exact of_frame (ite_keeps (x.address = s.settings.address) hstored (exemptRequest_fits hstored))
    (by simp [completeWrite]) (by simp [completeWrite])

theorem settingsWrite_fits (site : Site) (address check : Byte) {u : State} (h : RelationsFit s)
    (hu : execSettingsWrite site address check s = .next u) : RelationsFit u := by
  refine running_fits hu h ?_
  cases s.ir.write with
  | none => exact h
  | some x => exact ite_keeps _ (completeWrite_fits x (s := s.advance x.endsAt) h) h

/-! ### Every command -/

theorem exec_fits (c : Instr) {u : State} (h : RelationsFit s) (hu : exec c s = .next u) : RelationsFit u := by
  cases c with
  | lineIdle t heard => exact running_fits hu h (lineBecomesIdle_fits heard h)
  | startLeadingEdge t dip => exact running_fits hu h (hearStart_fits dip h)
  | contentionLost cell dip => exact running_fits hu h (loseContention_fits cell dip h)
  | sendMismatch half dips => exact running_fits hu h (meetMismatch_fits half dips h)
  | messageSent => exact running_fits hu h (sendComplete_fits h)
  | ownTailStart => exact running_fits hu h (ite_keeps _ (onExpiry_keeps _ h fun _ => observe_fits _ h) h)
  | tailEnd r => exact running_fits hu h (onExpiry_keeps _ h fun _ => endTail_fits r h)
  | sinkLockout drawn => exact done_fits hu (ite_keeps _ (h.of_frame (by simp) (by simp)) h)
  | presence t heard => exact running_fits hu h (receiveIf_fits _ heard h)
  | test t heard => exact running_fits hu h (receiveIf_fits _ heard h)
  | query t heard => exact running_fits hu h (receiveIf_fits _ heard h)
  | quiet t heard => exact running_fits hu h (receiveIf_fits _ heard h)
  | reply t heard => exact running_fits hu h (receiveIf_fits _ heard h)
  | frameDiscarded t heard => exact running_fits hu h (receiveIf_fits _ heard h)
  | secondTick through identity => exact running_fits hu h (onExpiry_keeps _ h fun _ => secondTick_fits through identity h)
  | orientationChange t reading => exact running_fits hu h (takeReading_fits reading h)
  | entryStale serial => exact running_fits hu h (staleEntry_fits serial h)
  | entryRemoved serial => exact running_fits hu h (removeEntry_fits serial h)
  | presenceTimerExpiry =>
    exact running_fits hu h (onExpiry_keeps _ h fun _ => ite_keeps _ h (h.of_frame (by simp) (by simp)))
  | quietEnd => exact running_fits hu h (onExpiry_keeps _ h fun _ => h.of_frame (by simp) (by simp))
  | alarmAsserted t => exact running_fits hu h (headEvent_fits (h.of_frame (by simp) (by simp)))
  | alarmReleased t => exact running_fits hu h (headEvent_fits (h.of_frame (by simp) (by simp)))
  | settlingEnd => exact running_fits hu h (onHeadTimer_fits _ h fun _ hx => hx.of_frame (by simp) (by simp))
  | confirmedAlarm =>
    exact running_fits hu h (ite_keeps _ (onHeadTimer_fits _ h fun _ hx => hx.of_frame (by simp) (by simp)) h)
  | resettingEnd => exact running_fits hu h (onHeadTimer_fits _ h fun _ hx => hx.of_frame (by simp) (by simp))
  | recoveringEnd => exact running_fits hu h (onHeadTimer_fits _ h fun _ hx => hx.of_frame (by simp) (by simp))
  | testedLatchExpiry => exact running_fits hu h (onExpiry_keeps _ h fun _ => h)
  | shortCriterion t sides through r => exact running_fits hu h (ite_keeps _ (meetShort_fits r h) h)
  | openWaitExpiry => exact running_fits hu h (ite_keeps _ (onExpiry_keeps _ h fun _ => h) h)
  | trialExpiry =>
    exact running_fits hu h (ite_keeps _ (onExpiry_keeps _ h fun _ => h.of_frame (by simp) (by simp)) h)
  | bandLow t mV => exact done_fits hu (ite_keeps _ h h)
  | bandNormal t mV => exact done_fits hu (ite_keeps _ h h)
  | bandCritical t mV => exact done_fits hu (ite_keeps _ (enterReset_fits _) h)
  | startBegin t mV kept => exact done_fits hu (ite_keeps _ (startFromCritical_fits kept h) h)
  | clockSettle => exact done_fits hu (onPhaseEnd_keeps _ h fun _ => h)
  | loadSettings => exact done_fits hu (onPhaseEnd_keeps _ h fun _ => h)
  | selfTest heard r => exact done_fits hu (onPhaseEnd_keeps _ h fun _ => h)
  | digit t w => exact running_fits hu h (pressed_fits _ w h fun _ hx => hx.of_frame (by simp) (by simp))
  | enter t w => exact running_fits hu h (pressed_fits _ w h fun _ hx => hx.of_frame (by simp) (by simp))
  | cancel t w => exact running_fits hu h (pressed_fits _ w h fun _ hx => hx)
  | sound t w => exact running_fits hu h (pressed_fits _ w h fun _ => exemptRequest_fits)
  | clear t w => exact running_fits hu h (pressed_fits _ w h fun _ => pressClear_fits)
  | restart t w => exact running_fits hu h (pressRestart_fits w h)
  | siteClear t w => exact running_fits hu h (pressed_fits _ w h fun _ hx => hx.of_frame (by simp) (by simp))
  | entryTimerExpiry => exact running_fits hu h (onExpiry_keeps _ h fun _ => h)
  | settingsWrite site address check => exact settingsWrite_fits site address check h hu
  | irFeedbackEnd => exact running_fits hu h (onExpiry_keeps _ h fun _ => h)
  | identifyTimerExpiry => exact running_fits hu h (onExpiry_keeps _ h fun _ => h)
  | lastSerialCellSent => exact running_fits hu h (winContention_fits h)
  | irWordDiscarded t w => exact running_fits hu h (h.of_frame (by simp) (by simp))

end RelationsFit

/-- Settles O9: the command at the front of the queue keeps every entry classified; on an empty queue nothing happens. -/
theorem relationsKept : Obligations.RelationsKept := by
  intro s u h hstep
  cases hpending : s.pending with
  | nil =>
    simp only [step, hpending] at hstep
    cases hstep
    exact h
  | cons c rest =>
    simp only [step, hpending] at hstep
    exact RelationsFit.exec_fits c (s := { s with pending := rest }) h hstep

end Sys2Proof.Machine
end

section
/-! SUPPORT. The loop picture (R102 to R105), read off the entries. Its counts count LIVE entries by relation, a finding is
seen where its count is not 0, and the first-finding serial is that of the first entry that shows a finding. -/

namespace Sys2Proof.Machine

theorem Entry.liveAs_iff (rel : Relation) (e : Entry) : e.liveAs rel = true ↔ e.state = .live ∧ e.relation = rel :=
  decide_eq_true_iff

theorem Entry.showsFinding_iff (e : Entry) : e.showsFinding = true ↔
    e.state = .live ∧ (e.relation = .branched ∨ e.relation = .split ∨ e.relation = .inconsistent) := by
  simp only [Entry.showsFinding, Bool.or_eq_true, Entry.liveAs_iff, or_assoc, and_or_left]

/-! ### The counts (R102) -/

theorem Roster.liveOf_eq_length (r : Roster) (rel : Relation) :
    r.liveOf rel = (r.entries.filter fun e => decide (e.state = .live ∧ e.relation = rel)).length :=
  List.countP_eq_length_filter

/-- A relation is seen among the LIVE entries where its count is not 0. -/
theorem Roster.any_liveAs_iff (r : Roster) (rel : Relation) :
    r.entries.any (Entry.liveAs rel) = true ↔ 0 < r.liveOf rel := by
  rw [List.any_eq_true, Roster.liveOf, List.countP_pos_iff]

/-- The relations divide the LIVE entries among them: every LIVE entry has exactly one. -/
theorem countP_liveAs_add (es : List Entry) :
    es.countP (Entry.liveAs .upstream) + es.countP (Entry.liveAs .downstream) + es.countP (Entry.liveAs .branched)
      + es.countP (Entry.liveAs .split) + es.countP (Entry.liveAs .inconsistent) + es.countP (Entry.liveAs .unmeasured)
      = es.countP fun e => decide (e.state = .live) := by
  induction es with
  | nil => rfl
  | cons e es ih =>
    simp only [List.countP_cons, ← ih, Entry.liveAs_iff, decide_eq_true_eq]
    by_cases hlive : e.state = .live
    · cases hrelation : e.relation <;> simp [hlive] <;> omega
    · simp [hlive]

theorem Roster.liveOf_add (r : Roster) :
    r.liveOf .upstream + r.liveOf .downstream + r.liveOf .branched + r.liveOf .split + r.liveOf .inconsistent
      + r.liveOf .unmeasured = (r.entries.filter fun e => decide (e.state = .live)).length :=
  (countP_liveAs_add r.entries).trans List.countP_eq_length_filter

/-! ### The findings (R103, R104) -/

/-- There is no first finding where no LIVE entry is BRANCHED, SPLIT or INCONSISTENT. -/
theorem pictureOf_firstFinding_eq_none (r : Roster) (o : Orientation) : (pictureOf r o).firstFinding = none ↔
    (pictureOf r o).branchSeen = false ∧ (pictureOf r o).doubleFeedSeen = false ∧
      (pictureOf r o).inconsistentSeen = false := by
  simp only [pictureOf, Option.map_eq_none_iff, List.find?_eq_none, List.any_eq_false, Entry.showsFinding,
    Bool.or_eq_true, not_or, imp_and, forall_and, and_assoc]

/-- The first finding is the serial of the first entry that shows one. -/
theorem pictureOf_firstFinding_eq_some (r : Roster) (o : Orientation) (x : Serial) :
    (pictureOf r o).firstFinding = some x ↔ ∃ front e back, r.entries = front ++ e :: back ∧ e.serial = x ∧
      e.showsFinding = true ∧ ∀ y ∈ front, ¬y.showsFinding = true := by
  simp only [pictureOf, Option.map_eq_some_iff, List.find?_eq_some_iff_append, Bool.not_eq_true', Bool.not_eq_true]
  constructor
  · rintro ⟨e, ⟨he, front, back, hes, hfront⟩, hx⟩
    exact ⟨front, e, back, hes, hx, he, hfront⟩
  · rintro ⟨front, e, back, hes, hx, he, hfront⟩
    exact ⟨e, ⟨he, front, back, hes, hfront⟩, hx⟩

/-! ### The end of the line (R105) -/

theorem pictureOf_endCandidate_iff (r : Roster) (o : Orientation) :
    (pictureOf r o).endCandidate = true ↔ o = .unknown ∧ (pictureOf r o).downstream = 0 := by
  have hseen := r.any_liveAs_iff .downstream
  simp only [pictureOf, Bool.and_eq_true, decide_eq_true_eq, Bool.not_eq_true', ← Bool.not_eq_true, hseen,
    Nat.not_lt, Nat.le_zero]

/-- Settles O18: the counts are counts of LIVE entries, and the findings are read off the same entries. -/
theorem loopPictureFollowsEntries : Obligations.LoopPictureFollowsEntries := by
  intro r o
  refine ⟨r.liveOf_eq_length _, r.liveOf_eq_length _, r.liveOf_eq_length _, r.liveOf_eq_length _, r.liveOf_eq_length _,
    r.liveOf_eq_length _, r.liveOf_add, r.any_liveAs_iff _, r.any_liveAs_iff _, r.any_liveAs_iff _,
    pictureOf_firstFinding_eq_none r o, fun x => ?_, pictureOf_endCandidate_iff r o⟩
  simp only [pictureOf_firstFinding_eq_some, Entry.showsFinding_iff]

end Sys2Proof.Machine
end

section
/-! SUPPORT. The indicator at the end of a command (R185 to R187). No command's effect writes the pattern shown: it leaves the
LED block alone, or sets one of its two timers, or gives a feedback, which begins again where its own pattern is being
shown (`LedKept`). What the end of every command then makes of the block is said once (`LedAnswers`). -/

namespace Sys2Proof.Machine

/-! ### What a command's effect and its end do to the LED block -/

/-- A feedback has been given at this moment and the pattern shown, its own, begins again (R185). -/
def FeedbackBegins (s : State) : Prop :=
  s.indicator.since = s.now ∧ ∃ k : FeedbackKind,
    s.indicator.shown = k.pattern ∧ s.indicator.feedback = some { kind := k, endsAt := s.now + k.length }

/-- The LED block of a running station before the end of a command that found it as `b`: the pattern is the old one, and
it runs on or begins again with a feedback. -/
def LedKept (b : Indicator) (s : State) : Prop :=
  s.supply.phase = .running →
    s.indicator.shown = b.shown ∧ (s.indicator.since = b.since ∨ FeedbackBegins s)

/-- The LED block after a command that found it as `b`: the first condition's pattern, and in a running station the
moment at which a new pattern, or the old one, began (R186). -/
structure LedAnswers (b : Indicator) (u : State) : Prop where
  first : u.indicator.shown = u.firstCondition
  changed : u.supply.phase = .running → u.indicator.shown ≠ b.shown → u.indicator.since = u.now
  stayed : u.supply.phase = .running → u.indicator.shown = b.shown →
    u.indicator.since = b.since ∨ FeedbackBegins u

theorem refreshIndicator_shown (s : State) :
    s.refreshIndicator.indicator.shown = s.refreshIndicator.firstCondition := by
  rw [ledFollows_refresh s s rfl]

/-- The end of a command in which the first condition's pattern is shown already changes nothing. -/
theorem refreshIndicator_same {s : State} (h : s.refreshIndicator.indicator.shown = s.indicator.shown) :
    s.refreshIndicator = s := by
  rw [refreshIndicator_shown, firstCondition_refresh] at h
  exact if_pos h

/-- A pattern that the end of a command changes begins at that moment. -/
theorem refreshIndicator_since {s : State} (h : s.refreshIndicator.indicator.shown ≠ s.indicator.shown) :
    s.refreshIndicator.indicator.since = s.refreshIndicator.now := by
  rw [refreshIndicator_shown] at h
  rw [ledFollows_refresh s s rfl]
  exact if_neg h

/-- What the end of a command makes of an effect that keeps the pattern shown. -/
theorem refreshIndicator_answers {b : Indicator} {s : State} (h : LedKept b s) : LedAnswers b s.refreshIndicator where
  first := refreshIndicator_shown s
  changed hrun hne := by
    obtain ⟨hshown, -⟩ := h (by simpa using hrun)
    exact refreshIndicator_since (by rwa [hshown])
  stayed hrun heq := by
    obtain ⟨hshown, hsince⟩ := h (by simpa using hrun)
    rwa [refreshIndicator_same (heq.trans hshown.symm)]

/-- A station that is not held in reset has as its first condition the first of R186's list. -/
theorem firstCondition_awake {s : State} (h : s.supply.phase ≠ .held) : s.firstCondition =
    if s.retained.lockout = true then .lockout
    else if s.indicator.identify ≠ none then .identify
    else match s.indicator.feedback with
      | some f => if f.kind = .acknowledge then .acknowledge else .error
      | none =>
        if s.ir.mode = .entering then .entering
        else if s.head.state = .stuck then .stuck
        else if s.roster.conflict ≠ none then .conflict
        else if s.head.testedLatch ≠ none then .tested
        else if s.settings.address = 0 then .unaddressed
        else .normal := by
  simp only [State.firstCondition, if_neg h, State.conflictShown, Option.isSome_iff_ne_none]
  congr 2
  cases s.indicator.feedback with
  | none => rfl
  | some f => cases hk : f.kind <;> simp [hk, FeedbackKind.pattern]

/-- The feedback that begins again is the one whose pattern is shown, for the time of R185. -/
theorem FeedbackBegins.kind {s : State} (h : FeedbackBegins s) : s.indicator.since = s.now ∧
    ((s.indicator.shown = .error ∧
        s.indicator.feedback = some { kind := .error, endsAt := s.now + 1000000 }) ∨
      (s.indicator.shown = .acknowledge ∧
        s.indicator.feedback = some { kind := .acknowledge, endsAt := s.now + 600000 })) := by
  obtain ⟨hsince, k, hshown, hfeedback⟩ := h
  refine ⟨hsince, ?_⟩
  cases k with
  | acknowledge => exact .inr ⟨hshown, hfeedback⟩
  | error => exact .inl ⟨hshown, hfeedback⟩

/-! ### The LED block through the operations that may write it -/

theorem headEvent_indicator {f : State → State} {s : State} (hf : (f s).indicator = s.indicator) :
    (headEvent f s).indicator = s.indicator :=
  ite_keeps (P := fun x => x.indicator = s.indicator) _ hf (by simpa using hf)

theorem secondTick_indicator (through : Option Int) (identity : BitVec 10) (s : State) :
    (secondTick through identity s).indicator = s.indicator := by
  have hreading : ∀ x, (readingAtTick through x).indicator = x.indicator := fun x => by
    cases through with
    | none => rfl
    | some reading => simp [readingAtTick]
  refine (headEvent_indicator ?_).trans ?_ <;> simp [hreading]

/-- The pattern that is shown and the moment it began. -/
def Indicator.showing (x : Indicator) : Pattern × Nat := (x.shown, x.since)

/-- A query sets at most the IDENTIFY timer (R158). -/
theorem takeQuery_showing (requester : Serial) (item : Nat) (index : Option Nat) (s : State) :
    (takeQuery requester item index s).indicator.showing = s.indicator.showing := by
  simp only [takeQuery]
  split <;> simp [Indicator.showing]

theorem deliverQuery_showing (requester : Serial) (selector : Selector) (item : Nat) (index : Option Nat) (s : State) :
    (deliverQuery requester selector item index s).indicator.showing = s.indicator.showing := by
  unfold deliverQuery
  split
  · rfl
  split
  · simp
  split
  · rfl
  · exact takeQuery_showing requester item index s

theorem deliver_showing (sender : Serial) (via : Via) (m : Message) (s : State) :
    (deliver sender via m s).indicator.showing = s.indicator.showing := by
  unfold deliver
  split
  · rfl
  cases m with
  | query selector item index => exact deliverQuery_showing sender selector item index s
  | presence p => simp
  | test address kind number typeTested => simp
  | quiet duration => simp
  | reply => simp

theorem takeIf_showing (wanted : Reception → Bool) (r : Reception) {leave : State → State} {s : State}
    (hleave : (leave s).indicator = s.indicator) :
    (takeIf wanted r leave s).indicator.showing = s.indicator.showing := by
  unfold takeIf
  split
  · rw [← hleave]
    cases r with
    | delivered sender via iDamaged m =>
      simpa [takeReception] using deliver_showing sender via m (countGood iDamaged (leave s))
    | foreign => simp [takeReception]
    | discarded kind => simp [takeReception]
  · rfl

theorem receiveIf_showing (wanted : Reception → Bool) (h : Heard) (s : State) :
    (receiveIf wanted h s).indicator.showing = s.indicator.showing := by
  unfold receiveIf
  cases s.endedFrame h with
  | some f => exact takeIf_showing wanted _ (by simp)
  | none =>
    cases s.tailFrame h with
    | some f => exact takeIf_showing wanted _ (by simp)
    | none => rfl

theorem decideAtIdle_showing (heard : Option Heard) (s : State) :
    (decideAtIdle heard s).indicator.showing = s.indicator.showing := by
  cases heard with
  | none => rfl
  | some h => exact receiveIf_showing _ h s

theorem lineBecomesIdle_showing (heard : IdleHearing) (s : State) :
    (lineBecomesIdle heard s).indicator.showing = s.indicator.showing := by
  unfold lineBecomesIdle
  split
  · simpa using decideAtIdle_showing heard.frame (judgeIdle s)
  · rfl

namespace LedKept

variable {b : Indicator} {s : State}

/-! ### The ways to keep the pattern shown -/

/-- At most the two timers have been written. -/
theorem of_showing (h : s.indicator.showing = b.showing) : LedKept b s := by
  obtain ⟨hshown, hsince⟩ := Prod.mk.inj h
  exact fun _ => ⟨hshown, .inl hsince⟩

/-- The LED block has been left alone. -/
theorem of_untouched (h : s.indicator = b) : LedKept b s := of_showing (by rw [h])

/-- The station no longer runs. -/
theorem of_notRunning (h : s.supply.phase ≠ .running) : LedKept b s := fun hrun => absurd hrun h

/-- The supply, the LED block and the time base stay. -/
theorem of_frame {t : State} (h : LedKept b s) (hsupply : t.supply = s.supply) (hindicator : t.indicator = s.indicator)
    (hnow : t.now = s.now) : LedKept b t := by
  unfold LedKept FeedbackBegins at *
  rwa [hsupply, hindicator, hnow]

/-- A feedback begins its pattern again where that is being shown, and otherwise leaves the pattern running (R185). -/
theorem giveFeedback_kept (k : FeedbackKind) (h : s.indicator = b) : LedKept b (giveFeedback k s) := by
  subst h
  refine fun _ => ⟨rfl, ?_⟩
  by_cases hshown : s.indicator.shown = k.pattern
  · exact .inr ⟨if_pos hshown, k, hshown, rfl⟩
  · exact .inl (if_neg hshown)

/-! ### Commands that wait for a condition -/

/-- What a command answers whose effect keeps the pattern shown. -/
theorem answers {u : State} (h : LedKept b s) (hu : done s = .next u) : LedAnswers b u := by
  cases hu
  exact refreshIndicator_answers h

/-- What a command answers that acts only while the station runs. -/
theorem running_answers {f : State → State} {t u : State} (hu : done (whenRunning f t) = .next u)
    (ht : t.indicator = b) (hf : LedKept b (f t)) : LedAnswers b u :=
  answers (ite_keeps _ hf (of_untouched ht)) hu

theorem onHeadTimer_kept {f : State → State} (state : HeadState) (hf : ∀ x, (f x).indicator = x.indicator) :
    LedKept s.indicator (onHeadTimer state f s) :=
  have hs : LedKept s.indicator s := of_untouched rfl
  ite_keeps _ (onExpiry_keeps _ hs fun d => of_untouched (headEvent_indicator (hf (s.advance d)))) hs

theorem acceptKey_kept {act : State → State} (key : Nat) (w : IrWord)
    (hact : ∀ x, x.indicator = s.indicator → LedKept s.indicator (act x)) :
    LedKept s.indicator (acceptKey key w act s) :=
  of_frame (hact (s.withIr { s.ir with
      press := some { key := key, since := s.now }
      checkError := false, siteMismatch := false, overflow := false }) rfl)
    (by simp [acceptKey]) (by simp [acceptKey]) (by simp [acceptKey])

theorem pressed_kept {act : State → State} (wanted : Nat → Bool) (w : IrWord)
    (hact : ∀ x, x.indicator = s.indicator → LedKept s.indicator (act x)) :
    LedKept s.indicator (onAccepted wanted w act s) :=
  onAccepted_keeps wanted w (of_untouched rfl) fun key => acceptKey_kept key w hact


/-! ### The line (01) -/

theorem hearStart_kept (dip : Int) : LedKept s.indicator (hearStart dip s) :=
  have hs : LedKept s.indicator s := of_untouched rfl
  ite_keeps _ hs (ite_keeps _ (of_untouched (by simp)) (of_untouched (by simp)))

theorem loseContention_kept (cell : Nat) (dip : Int) : LedKept s.indicator (loseContention cell dip s) := by
  unfold loseContention
  cases s.sender.outgoing with
  | none => exact of_untouched rfl
  | some o => exact ite_keeps _ (of_untouched (by simp)) (of_untouched rfl)

theorem meetMismatch_kept (half : Nat) (dips : CellDips) : LedKept s.indicator (meetMismatch half dips s) := by
  unfold meetMismatch
  cases s.sender.outgoing with
  | none => exact of_untouched rfl
  | some o => exact ite_keeps _ (of_untouched (by simp)) (of_untouched rfl)

theorem winContention_kept : LedKept s.indicator (winContention s) := by
  unfold winContention
  cases s.sender.outgoing with
  | none => exact of_untouched rfl
  | some o => exact ite_keeps _ (of_untouched rfl) (of_untouched rfl)

theorem sendComplete_kept : LedKept s.indicator (sendComplete s) := by
  unfold sendComplete
  cases s.sender.outgoing with
  | none => exact of_untouched rfl
  | some o => exact ite_keeps _ (of_untouched (by simp)) (of_untouched rfl)

/-! ### The roster and the presence scheduler (04, 06) -/

theorem staleEntry_kept (serial : Serial) : LedKept s.indicator (staleEntry serial s) := by
  unfold staleEntry
  cases s.roster.find serial with
  | none => exact of_untouched rfl
  | some e => exact of_untouched (by simp)

theorem removeEntry_kept (serial : Serial) : LedKept s.indicator (removeEntry serial s) := by
  unfold removeEntry
  cases s.roster.find serial with
  | none => exact of_untouched rfl
  | some e => exact ite_keeps _ (of_untouched rfl) (of_untouched (by simp))

/-! ### The starts (10): a station that begins one does not run -/

theorem startFromCritical_kept (kept : Bool) : LedKept b (startFromCritical kept s) :=
  ite_keeps _ (of_notRunning (by simp [beginStart])) (of_notRunning (by simp [beginStart]))

/-! ### The IR entry port (11) -/

theorem entryError_kept (h : s.indicator = b) : LedKept b (entryError s) :=
  giveFeedback_kept .error (s := leaveEntry s) h

theorem pressDigit_kept (digit : Nat) (h : s.indicator = b) : LedKept b (pressDigit digit s) := by
  unfold pressDigit
  split
  · exact ite_keeps _ (of_untouched h) (entryError_kept h)
  · exact of_untouched h

theorem pressEnter_kept (w : IrWord) (h : s.indicator = b) : LedKept b (pressEnter w s) := by
  unfold pressEnter
  split
  · exact ite_keeps _ (of_untouched h) (entryError_kept h)
  · exact entryError_kept h

theorem pressSiteClear_kept (h : s.indicator = b) : LedKept b (pressSiteClear s) :=
  ite_keeps _ (entryError_kept h) (of_untouched h)

theorem pressClear_kept (h : s.indicator = b) : LedKept b (pressClear s) := by
  have hcleared : (headEvent clearHead s).indicator = s.indicator := headEvent_indicator (by simp)
  exact of_untouched (by simp [pressClear, hcleared, h])

theorem pressRestart_kept (w : IrWord) : LedKept s.indicator (pressRestart w s) := by
  have hs : LedKept s.indicator s := of_untouched rfl
  have hrestarted : LedKept s.indicator (irRestart s) := of_notRunning (by simp [irRestart, beginStart])
  unfold pressRestart
  cases judgeWord s w with
  | accepted key => exact ite_keeps _ (acceptKey_kept key w fun _ hx => of_untouched hx) hs
  | repeated key => exact ite_keeps _ (ite_keeps _ hrestarted (of_untouched rfl)) hs
  | overflow => exact hs
  | checkError => exact hs
  | siteMismatch => exact hs
  | outOfRange => exact hs

/-- Of the words that are discarded only one for another site gives a feedback (R177). -/
theorem discardWord_kept (w : IrWord) : LedKept s.indicator (discardWord w s) := by
  have hs : LedKept s.indicator s := of_untouched rfl
  unfold discardWord
  cases judgeWord s w with
  | siteMismatch => exact giveFeedback_kept .error rfl
  | repeated key => exact ite_keeps _ hs (of_untouched (by simp))
  | overflow => exact of_untouched rfl
  | checkError => exact of_untouched rfl
  | outOfRange => exact hs
  | accepted key => exact hs

theorem endStoring_kept (h : LedKept b s) : LedKept b (endStoring s) := h.of_frame rfl rfl rfl

/-- A completed write gives its feedback after all else that it does (R181). -/
theorem completeWrite_kept (x : Write) (h : s.indicator = b) : LedKept b (completeWrite x s) := by
  refine endStoring_kept (giveFeedback_kept .acknowledge ?_)
  split <;> simp [h]

theorem settingsWrite_kept (site : Site) (address check : Byte) {u : State}
    (hu : execSettingsWrite site address check s = .next u) : LedAnswers s.indicator u := by
  refine running_answers hu rfl ?_
  cases s.ir.write with
  | none => exact of_untouched rfl
  | some x =>
    exact ite_keeps _ (completeWrite_kept x (s := s.advance x.endsAt) rfl)
      (endStoring_kept (giveFeedback_kept .error rfl))

/-! ### Every command -/

theorem exec_answers (c : Instr) {u : State} (hu : exec c s = .next u) : LedAnswers s.indicator u := by
  have hs : LedKept s.indicator s := of_untouched rfl
  have hadvanced : ∀ t, LedKept s.indicator (s.advance t) := fun _ => of_untouched rfl
  cases c with
  | lineIdle t heard => exact running_answers hu rfl (of_showing (lineBecomesIdle_showing heard (s.advance t)))
  | startLeadingEdge t dip => exact running_answers hu rfl (hearStart_kept dip)
  | contentionLost cell dip => exact running_answers hu rfl (loseContention_kept cell dip)
  | sendMismatch half dips => exact running_answers hu rfl (meetMismatch_kept half dips)
  | messageSent => exact running_answers hu rfl sendComplete_kept
  | ownTailStart =>
    exact running_answers hu rfl (ite_keeps _ (onExpiry_keeps _ hs fun d => of_untouched (by simp)) hs)
  | tailEnd r => exact running_answers hu rfl (onExpiry_keeps _ hs fun d => of_untouched (by simp))
  | sinkLockout drawn => exact answers (ite_keeps _ (of_untouched (by simp)) (hadvanced drawn.upTo)) hu
  | presence t heard => exact running_answers hu rfl (of_showing (receiveIf_showing _ heard (s.advance t)))
  | test t heard => exact running_answers hu rfl (of_showing (receiveIf_showing _ heard (s.advance t)))
  | query t heard => exact running_answers hu rfl (of_showing (receiveIf_showing _ heard (s.advance t)))
  | quiet t heard => exact running_answers hu rfl (of_showing (receiveIf_showing _ heard (s.advance t)))
  | reply t heard => exact running_answers hu rfl (of_showing (receiveIf_showing _ heard (s.advance t)))
  | frameDiscarded t heard => exact running_answers hu rfl (of_showing (receiveIf_showing _ heard (s.advance t)))
  | secondTick through identity =>
    exact running_answers hu rfl (onExpiry_keeps _ hs fun d => of_untouched (secondTick_indicator _ _ (s.advance d)))
  | orientationChange t reading => exact running_answers hu rfl (of_untouched (by simp))
  | entryStale serial => exact running_answers hu rfl (staleEntry_kept serial)
  | entryRemoved serial => exact running_answers hu rfl (removeEntry_kept serial)
  | presenceTimerExpiry =>
    exact running_answers hu rfl (onExpiry_keeps _ hs fun d =>
      ite_keeps _ (of_untouched (by simp)) (of_untouched (by simp)))
  | quietEnd => exact running_answers hu rfl (onExpiry_keeps _ hs fun d => of_untouched (by simp))
  | alarmAsserted t => exact running_answers hu rfl (of_untouched (headEvent_indicator (by simp)))
  | alarmReleased t => exact running_answers hu rfl (of_untouched (headEvent_indicator (by simp)))
  | settlingEnd => exact running_answers hu rfl (onHeadTimer_kept _ (by simp))
  | confirmedAlarm => exact running_answers hu rfl (ite_keeps _ (onHeadTimer_kept _ (by simp)) hs)
  | resettingEnd => exact running_answers hu rfl (onHeadTimer_kept _ (by simp))
  | recoveringEnd => exact running_answers hu rfl (onHeadTimer_kept _ (by simp))
  | testedLatchExpiry => exact running_answers hu rfl (onExpiry_keeps _ hs fun d => of_untouched (by simp))
  | shortCriterion t sides through r =>
    exact running_answers hu rfl (ite_keeps _ (of_untouched (by simp)) (hadvanced t))
  | openWaitExpiry =>
    exact running_answers hu rfl (ite_keeps _ (onExpiry_keeps _ hs fun d => of_untouched (by simp)) hs)
  | trialExpiry =>
    exact running_answers hu rfl (ite_keeps _ (onExpiry_keeps _ hs fun d => of_untouched (by simp)) hs)
  | bandLow t mV => exact answers (ite_keeps _ (of_untouched (by simp)) (hadvanced t)) hu
  | bandNormal t mV => exact answers (ite_keeps _ (of_untouched (by simp)) (hadvanced t)) hu
  | bandCritical t mV => exact answers (ite_keeps _ (of_notRunning (by simp [enterReset])) (hadvanced t)) hu
  | startBegin t mV kept => exact answers (ite_keeps _ (startFromCritical_kept kept) (hadvanced t)) hu
  | clockSettle => exact answers (onPhaseEnd_keeps _ hs fun d => of_untouched rfl) hu
  | loadSettings => exact answers (onPhaseEnd_keeps _ hs fun d => of_untouched rfl) hu
  | selfTest heard r => exact answers (onPhaseEnd_keeps _ hs fun d => of_untouched rfl) hu
  | digit t w => exact running_answers hu rfl (pressed_kept _ w fun _ => pressDigit_kept _)
  | enter t w => exact running_answers hu rfl (pressed_kept _ w fun _ => pressEnter_kept w)
  | cancel t w => exact running_answers hu rfl (pressed_kept _ w fun _ hx => of_untouched hx)
  | sound t w => exact running_answers hu rfl (pressed_kept _ w fun _ hx => of_untouched (by simpa using hx))
  | clear t w => exact running_answers hu rfl (pressed_kept _ w fun _ => pressClear_kept)
  | restart t w => exact running_answers hu rfl (pressRestart_kept w)
  | siteClear t w => exact running_answers hu rfl (pressed_kept _ w fun _ => pressSiteClear_kept)
  | entryTimerExpiry => exact running_answers hu rfl (onExpiry_keeps _ hs fun d => of_untouched rfl)
  | settingsWrite site address check => exact settingsWrite_kept site address check hu
  | irFeedbackEnd => exact running_answers hu rfl (onExpiry_keeps _ hs fun d => of_showing rfl)
  | identifyTimerExpiry => exact running_answers hu rfl (onExpiry_keeps _ hs fun d => of_showing rfl)
  | lastSerialCellSent => exact running_answers hu rfl winContention_kept
  | irWordDiscarded t w => exact running_answers hu rfl (discardWord_kept w)

end LedKept

/-- Settles O3: every command ends by showing the first condition, and before its end it writes the pattern's beginning
only with a feedback whose own pattern is being shown. -/
theorem ledShowsFirstCondition : Obligations.LedShowsFirstCondition := by
  intro c s u hu
  have hled := LedKept.exec_answers c hu
  exact ⟨fun hawake => hled.first.trans (firstCondition_awake hawake), fun _ => hled.changed,
    fun _ hrun heq => (hled.stayed hrun heq).imp_right FeedbackBegins.kind⟩

end Sys2Proof.Machine
end

section
/-! SUPPORT. What a step is made of. Every command does a few elementary changes one after another (`RunningChange` in a station
that runs, `Change` in any phase), each with what the command has checked before it. `exec_changes` says so of every
command once; a property that every elementary change keeps is kept by every step (`kept_by_step`). -/

namespace Sys2Proof.Machine

/-- An elementary change of a station that runs. -/
inductive RunningChange (s : State) : State → Prop where
  | receiver (x : Receiver) : RunningChange s { s with rx := x }
  | port (x : Port) (hcutoff : x.cutoffOpen = s.port.cutoffOpen) : RunningChange s { s with port := x }
  | indicator (x : Indicator) : RunningChange s { s with indicator := x }
  | free (n : Nat) : RunningChange s { s with free := n }
  /-- The sender begins the message of a filled slot. -/
  | start (o : Outgoing) (hwaiting : s.sender.state = .waiting) (hfilled : (s.sender.slot o.kind).filled = true) :
      RunningChange s { s with sender := { s.sender with state := .contending, outgoing := some o } }
  | win (hcontending : s.sender.state = .contending) :
      RunningChange s { s with sender := { s.sender with state := .payload } }
  /-- The message on the line is lost, or aborted below the limit. -/
  | retry (o : Outgoing) (n : Nat) (hout : s.sender.outgoing = some o)
      (hn : n = (s.sender.slot o.kind).aborts ∨ n < 8) :
      RunningChange s (messageRetried o.kind n (leaveLine .waiting s))
  | discard (o : Outgoing) (hout : s.sender.outgoing = some o) :
      RunningChange s (messageEnded o.kind (leaveLine .waiting s))
  /-- The message on the line has been sent; with a tail to come the quiet cells run to `tailAt`. -/
  | sent (o : Outgoing) (tailAt : Timer) (hout : s.sender.outgoing = some o) :
      RunningChange s (messageEnded o.kind { s with sender := { s.sender with
        state := if tailAt.isSome = true then .quietCells else .waiting, outgoing := none, tailAt := tailAt } })
  | ownTail (e : Nat) (hquiet : s.sender.state = .quietCells) :
      RunningChange s { s with sender := { s.sender with state := .tail, tailAt := some e } }
  | lineBack (htail : s.sender.state = .tail) :
      RunningChange s { s with sender := { s.sender with state := .waiting, tailAt := none } }
  | schedule (x : Scheduler) (hquiet : x.quietUntil = s.sched.quietUntil) (hexempt : x.exempt = s.sched.exempt) :
      RunningChange s { s with sched := x }
  | routine : RunningChange s (routineRequest s)
  | exempt : RunningChange s (exemptRequest s)
  | quiet (d : Nat) : RunningChange s (takeQuiet d s)
  | quietEnds : RunningChange s (endQuiet s)
  | query (r : PendingReply) (hfree : s.sender.reply.filled = false) (hlockout : s.retained.lockout = false) :
      RunningChange s (fillSlot .reply { s with reply := { record := some r } })
  /-- The sounding unit's stores and marks; the observation under way, if any stays, keeps its trim. -/
  | sounding (x : Sounding)
      (hown : (x.ownDepth = s.sounding.ownDepth ∧ x.ownQuality = s.sounding.ownQuality) ∨
        (x.ownDepth = none ∧ x.ownQuality = 0))
      (hobs : ∀ o, x.obs = some o → ∃ old, s.sounding.obs = some old ∧ o.trim = old.trim) :
      RunningChange s { s with sounding := x }
  | observe (o : Observation) (htrim : o.trim = s.settings.trim ∨ TrimInRange o.trim) : RunningChange s (observe o s)
  | decide (r : TailReadings) : RunningChange s (decideObservation r s)
  | rosterFlags (x : Roster) (hentries : x.entries = s.roster.entries) : RunningChange s { s with roster := x }
  /-- Every entry changes in its place. -/
  | eachEntry (f : Entry → Entry) (hkey : ∀ e, (f e).serial = e.serial ∧ (f e).depth = e.depth)
      (hrange : ∀ e, EntryInRange e → EntryInRange (f e)) :
      RunningChange s (s.withEntries (s.roster.entries.map f))
  | someStay (p : Entry → Bool) : RunningChange s (s.withEntries (s.roster.entries.filter p))
  /-- One entry changes in its place. -/
  | oneEntry (e old : Entry) (hfind : s.roster.find e.serial = some old) (hdepth : e.depth = old.depth)
      (hrange : EntryInRange old → EntryInRange e) : RunningChange s (s.withEntries (replaceEntry e s.roster.entries))
  /-- An entry takes its place in the order and the old one of its serial, or an evicted one, leaves. -/
  | swap (e old : Entry) (hold : old ∈ s.roster.entries)
      (hnew : ∀ x ∈ dropSerial old.serial s.roster.entries, x.serial ≠ e.serial) (hown : e.serial ≠ s.settings.serial)
      (hrange : EntryInRange old → EntryInRange e) :
      RunningChange s (s.withEntries (placeEntry e (dropSerial old.serial s.roster.entries)))
  | enter (e : Entry) (hroom : s.roster.entries.length < 250) (hnew : ∀ x ∈ s.roster.entries, x.serial ≠ e.serial)
      (hown : e.serial ≠ s.settings.serial) (hrange : EntryInRange e) :
      RunningChange s (s.withEntries (placeEntry e s.roster.entries))
  | tick : RunningChange s (countSecond s)
  | journal (e : JournalEntry) (hstamp : e.heardAt = s.supply.uptime) : RunningChange s (writeJournal e s)
  | identity (code : Nat) : RunningChange s (readIdentity code s)
  | assertAlarm : RunningChange s (assertAlarm s)
  | releaseAlarm : RunningChange s (releaseAlarm s)
  | settled (hstate : s.head.state = .settling) : RunningChange s (enterReady s)
  | supplyBack (hstate : s.head.state = .resetting) : RunningChange s (endResetting s)
  | recovered (hstate : s.head.state = .recovering) (halarm : s.head.alarm = false) :
      RunningChange s (s.withHead { s.head with cycles := 0, state := .ready, timer := none })
  | latch (x : Timer) : RunningChange s (s.withHead { s.head with testedLatch := x })
  | confirmRecord (hstate : s.head.state = .confirming) :
      RunningChange s (s.withHead { s.head with record := recordOnConfirm s.head.record s.head.headType })
  | stuckRecord (hstate : s.head.state = .recovering) :
      RunningChange s (s.withHead { s.head with
        cycles := 3, state := .stuck, timer := none, record := { s.head.record with state := .stuck } })
  | event (e : TestEvent) (hnumber : s.head.record.number = some e.number) :
      RunningChange s (s.withHead { s.head with lastEvent := some e })
  | fillTest (hevent : s.head.lastEvent.isSome = true) : RunningChange s (fillSlot .test s)
  /-- A reset cycle begins, after a test that has been recorded. -/
  | resetHead (n : Nat) (hn : n ≤ 2)
      (hstate : s.head.state = .confirming ∨ s.head.state = .recovering ∨ s.head.state = .stuck)
      (hrecord : s.head.state = .confirming → s.head.record.state ≠ .notTested) : RunningChange s (beginReset n s)
  | openIsolator (e : Nat) (hclosed : s.isolator.state = .closed) (hobs : s.sounding.obs = none) :
      RunningChange s { s with isolator := { s.isolator with state := .openWait, timer := some e } }
  | failTrial (htrial : s.isolator.state = .trial) : RunningChange s (failTrial s)
  | tryAgain (hopen : s.isolator.state = .openWait) : RunningChange s (beginTrial s.isolator.failed s)
  | closeIsolator (htrial : s.isolator.state = .trial) :
      RunningChange s { s with isolator := { state := .closed, failed := 0, timer := none } }
  | clearIsolator : RunningChange s (clearIsolator s)
  | settings (x : Settings) (hserial : x.serial = s.settings.serial) (htrim : x.trim = s.settings.trim)
      (haddress : x.address = s.settings.address ∨ ∃ w, s.ir.write = some w ∧ x.address = w.address) :
      RunningChange s { s with settings := x }
  | ir (x : IrPort)
      (hwrite : ∀ w, x.write = some w → s.ir.write = some w ∨ w.address ≤ 240 ∨ w.address = s.settings.address) :
      RunningChange s { s with ir := x }

/-- An elementary change of a station in any phase. -/
inductive Change (s : State) : State → Prop where
  | running {t : State} (hrun : s.Running) (h : RunningChange s t) : Change s t
  | elapse (t : Nat) : Change s (s.advance t)
  /-- The pattern shown, or when it began. -/
  | pattern (x : Indicator) (hfeedback : x.feedback = s.indicator.feedback)
      (hidentify : x.identify = s.indicator.identify) : Change s { s with indicator := x }
  | low (hawake : s.Awake) : Change s (noteLow (s.withBand .low))
  | normal (hawake : s.Awake) : Change s (noteNormal (s.withBand .normal))
  | lockout (hawake : s.Awake) : Change s (lockSink s)
  | reset : Change s (enterReset s)
  | start (kept : Bool) (hheld : s.supply.phase = .held) : Change s (startFromCritical kept s)
  | restart : Change s (irRestart s)
  | clockSettled (hphase : s.supply.phase = .clockSettle) : Change s (enterPhase .loadSettings Config.loadTime s)
  | settingsLoaded (hphase : s.supply.phase = .loadSettings) : Change s (loadSettings s)
  | selfTested (heard : Heard) (r : TailReadings) (hphase : s.supply.phase = .selfTest) : Change s (endSelfTest heard r s)

/-- Any number of changes one after another. -/
inductive ChangeRun (r : State → State → Prop) (s : State) : State → Prop where
  | refl : ChangeRun r s s
  | tail {t u : State} (hrun : ChangeRun r s t) (hlast : r t u) : ChangeRun r s u

section
variable {r : State → State → Prop} {s t u : State}

theorem ChangeRun.single (h : r s t) : ChangeRun r s t := .tail .refl h

theorem ChangeRun.trans (hst : ChangeRun r s t) (htu : ChangeRun r t u) : ChangeRun r s u := by
  induction htu with
  | refl => exact hst
  | tail _ hlast ih => exact .tail ih hlast

theorem ChangeRun.head (hfirst : r s t) (htu : ChangeRun r t u) : ChangeRun r s u :=
  (ChangeRun.single hfirst).trans htu

end

/-- A run of elementary changes of a station that runs. -/
abbrev RunningChanges : State → State → Prop := ChangeRun RunningChange

/-- A run of elementary changes. -/
abbrev Changes : State → State → Prop := ChangeRun Change

/-- A station that runs goes on running through its elementary changes. -/
theorem RunningChange.phase {s t : State} (h : RunningChange s t) : t.supply.phase = s.supply.phase := by
  cases h with
  | tick => rfl
  | _ => simp

theorem RunningChanges.changes {s t : State} (hrun : s.Running) (h : RunningChanges s t) : t.Running ∧ Changes s t := by
  induction h with
  | refl => exact ⟨hrun, .refl⟩
  | tail _ hstep ih =>
    obtain ⟨hmid, hchanges⟩ := ih
    exact ⟨hstep.phase.trans hmid, hchanges.tail (.running hmid hstep)⟩

end Sys2Proof.Machine
end

section
/-! SUPPORT. What the values of a received message are. -/

namespace Sys2Proof.Machine

theorem getD_of_lt {α : Type} {l : List α} {k : Nat} (d : α) (h : k < l.length) : l.getD k d = l[k] := by
  rw [List.getD_eq_getElem?_getD, List.getElem?_eq_getElem h, Option.getD_some]

theorem getD_of_le {α : Type} {l : List α} {k : Nat} (d : α) (h : l.length ≤ k) : l.getD k d = d := by
  rw [List.getD_eq_getElem?_getD, List.getElem?_eq_none h, Option.getD_none]

/-- Bytes carry a number of as many bytes. -/
theorem bytesToNat_lt (bs : List Byte) : bytesToNat bs < 256 ^ bs.length := by
  have key : ∀ acc n, acc < 256 ^ n → bs.foldl (fun acc b => 256 * acc + b.toNat) acc < 256 ^ (n + bs.length) := by
    induction bs with
    | nil => exact fun acc n h => h
    | cons b bs ih =>
      intro acc n h
      have hb : b.toNat < 256 := b.isLt
      have hnext := ih (256 * acc + b.toNat) (n + 1) (by rw [Nat.pow_succ]; omega)
      rwa [Nat.add_right_comm] at hnext
  simpa [bytesToNat] using key 0 0 (by decide)

theorem fieldNat_lt (fields : List Byte) (k n : Nat) : fieldNat fields k n < 256 ^ n :=
  Nat.lt_of_lt_of_le (bytesToNat_lt _) (Nat.pow_le_pow_right (by decide) (List.length_take_le _ _))

/-- The values of a message lie in the ranges in which its owners keep them (R30). -/
def MessageInRange : Message → Prop
  | .presence p => p.address ≤ 240 ∧ (30 ≤ p.interval ∧ p.interval ≤ 155) ∧ AtMost 11375 p.depth ∧
      p.uptime ≤ 16777215 ∧ TrimInRange p.trim
  | .test address _ _ _ => address ≤ 240
  | .query _ _ _ => True
  | .quiet _ => True
  | .reply => True

theorem bringDepth_atMost (n : Nat) : AtMost 11375 (bringDepth n) := by
  intro d h
  unfold bringDepth at h
  split at h
  · cases h; assumption
  · cases h

theorem readPresence_inRange (fields : List Byte) (m : Message) (h : readPresence fields = .message m) :
    MessageInRange m := by
  unfold readPresence at h
  split at h
  · cases h
  · split at h
    · cases h
    case isFalse hvalid =>
      cases h
      have hup := fieldNat_lt fields 4 3
      simp only [Config.addressTop] at hvalid
      refine ⟨?_, ?_, bringDepth_atMost _, ?_, ?_⟩
      · show fieldAt fields 2 ≤ 240; omega
      · simp only [bringInterval]; omega
      · simp only; omega
      · simp only [bringTrim, TrimInRange, Config.trimLow, Config.trimHigh]; omega

theorem readTest_inRange (fields : List Byte) (m : Message) (h : readTest fields = .message m) : MessageInRange m := by
  unfold readTest at h
  split at h
  · split at h
    · cases h
    case isFalse hvalid =>
      cases h
      simp only [Config.addressTop] at hvalid
      show fieldAt fields 2 ≤ 240
      omega
  · cases h

/-- A PRESENCE and a TEST come from their own class; the values of no other message are bounded. -/
theorem readFields_inRange (k : Kind) (fields : List Byte) (m : Message) (h : readFields k fields = .message m) :
    MessageInRange m := by
  cases k with
  | presence => exact readPresence_inRange fields m h
  | test => exact readTest_inRange fields m h
  | query =>
    have hq : readQuery fields = .message m := h
    unfold readQuery at hq
    (repeat' split at hq) <;> cases hq <;> trivial
  | quiet => cases h; trivial
  | reply =>
    have hr : readReply fields = .message m := h
    unfold readReply at hr
    dsimp only at hr
    (repeat' split at hr) <;> cases hr <;> trivial

theorem needLength_ne_message (n total : Nat) (m : Message) : needLength n total ≠ some (.message m) := by
  unfold needLength; split <;> simp

/-- Check 2 hands no message on. -/
theorem lengthCheck_ne_message (k : Kind) (fields : List Byte) (m : Message) :
    lengthCheck k fields ≠ some (.message m) := by
  have hn := needLength_ne_message
  cases k with
  | presence => unfold lengthCheck; dsimp only; split <;> simp [hn]
  | test => exact hn _ _ _
  | quiet => exact hn _ _ _
  | query => unfold lengthCheck queryLength; dsimp only; (repeat' split) <;> simp [hn]
  | reply => unfold lengthCheck replyLength answerLength; dsimp only; (repeat' split) <;> simp [hn]

theorem judgeFrame_inRange (stored : Site) (f : Frame) (m : Message) (h : judgeFrame stored f = .message m) :
    MessageInRange m := by
  unfold judgeFrame at h
  cases hk : kindOfClass f.cls with
  | none => rw [hk] at h; cases h
  | some k =>
    rw [hk] at h
    dsimp only at h
    cases hl : lengthCheck k f.fields with
    | some bad => rw [hl] at h; exact absurd (hl.trans (congrArg some h)) (lengthCheck_ne_message k f.fields m)
    | none =>
      rw [hl] at h
      dsimp only at h
      split at h
      · exact readFields_inRange k f.fields m h
      · cases h

/-- What is delivered has its values in range. -/
theorem receptionOf_inRange (stored : Site) (rx : RxFrame) (heard : Heard) (sender : Serial) (via : Via) (d : Bool)
    (m : Message) (h : receptionOf stored rx heard = .delivered sender via d m) : MessageInRange m := by
  unfold receptionOf at h
  split at h
  · cases h
  · split at h
    case h_1 hj => cases h; exact judgeFrame_inRange _ _ _ hj
    all_goals cases h

/-- A message leaves the ranges of an entry. -/
theorem applyMessage_inRange (m : Message) (e : Entry) (hm : MessageInRange m) (he : EntryInRange e) :
    EntryInRange (applyMessage m e) := by
  obtain ⟨h1, h2, h3, h4, h5, h6, h7, h8, h9, h10, h11⟩ := he
  cases m with
  | presence p =>
    obtain ⟨haddress, hinterval, hdepth, huptime, -⟩ := hm
    refine ⟨haddress, h2, hinterval, hdepth, fun n hn => by cases hn; exact huptime, h6, h7, h8, h9, h10, ?_⟩
    simp only [applyMessage, restartsAfter, countUp, Config.restartsTop]
    split
    · (repeat' split) <;> omega
    · exact h11
  | test => exact ⟨hm, h2, h3, h4, h5, h6, h7, h8, h9, h10, h11⟩
  | query => exact ⟨h1, h2, h3, h4, h5, h6, h7, h8, h9, h10, h11⟩
  | quiet => exact ⟨h1, h2, h3, h4, h5, h6, h7, h8, h9, h10, h11⟩
  | reply => exact ⟨h1, h2, h3, h4, h5, h6, h7, h8, h9, h10, h11⟩

theorem refreshed_inRange (via : Via) (m : Message) (e : Entry) (hm : MessageInRange m) (he : EntryInRange e) :
    EntryInRange (refreshed via m e) := by
  obtain ⟨h1, h2, h3, h4, h5, h6, h7, h8, h9, h10, h11⟩ := he
  exact applyMessage_inRange m _ hm ⟨h1, Nat.zero_le _, h3, h4, h5, h6, h7, h8, h9, h10, h11⟩

theorem blankEntry_inRange (sender : Serial) (via : Via) : EntryInRange (blankEntry sender via) := by
  have hnone : ∀ top, AtMost top none := fun _ _ h => nomatch h
  exact ⟨Nat.zero_le _, Nat.zero_le _, by simp [blankEntry, Config.unheardInterval], hnone _, hnone _, hnone _, hnone _,
    Nat.zero_le _,
    by simp [blankEntry], by simp [blankEntry], Nat.zero_le _⟩

theorem classified_inRange (s : State) (e : Entry) (he : EntryInRange e) : EntryInRange (classified s e) := by
  obtain ⟨h1, h2, h3, h4, h5, h6, h7, h8, h9, h10, h11⟩ := he
  exact ⟨h1, h2, h3, h4, h5, h6, h7, h8, h9, h10, h11⟩

theorem settleState_inRange (e : Entry) (he : EntryInRange e) : EntryInRange e.settleState := by
  obtain ⟨h1, h2, h3, h4, h5, h6, h7, h8, h9, h10, h11⟩ := id he
  unfold Entry.settleState
  split
  · exact ⟨h1, h2, h3, h4, h5, h6, h7, h8, h9, h10, h11⟩
  · exact he

theorem aged_inRange (e : Entry) (he : EntryInRange e) : EntryInRange e.aged := by
  obtain ⟨h1, h2, h3, h4, h5, h6, h7, h8, h9, h10, h11⟩ := he
  exact ⟨h1, by simp only [Entry.aged, countUp, Config.ageTop]; split <;> omega, h3, h4, h5, h6, h7, h8, h9, h10, h11⟩

theorem withoutFigures_inRange (e : Entry) (he : EntryInRange e) : EntryInRange e.withoutFigures := by
  obtain ⟨h1, h2, h3, h4, h5, h6, h7, h8, h9, h10, h11⟩ := he
  have hnone : ∀ top, AtMost top none := fun _ _ h => nomatch h
  exact ⟨h1, h2, h3, h4, h5, hnone _, hnone _, by simp [Entry.withoutFigures], by simp [Entry.withoutFigures],
    by simp [Entry.withoutFigures], h11⟩

end Sys2Proof.Machine
end

section
/-! SUPPORT. The elementary changes of every operation and of every command, in the order of the operations. -/

namespace Sys2Proof.Machine

variable {s : State}

/-! ### What waits for a condition -/

theorem RunningChange.one {t : State} (h : RunningChange s t) : RunningChanges s t := .single h

theorem RunningChanges.ite {t : State} (p : Prop) [Decidable p] (ht : p → RunningChanges s t) :
    RunningChanges s (if p then t else s) := by
  split
  case isTrue h => exact ht h
  case isFalse => exact .refl

theorem Changes.ite {t : State} (p : Prop) [Decidable p] (ht : p → Changes s t) : Changes s (if p then t else s) := by
  split
  case isTrue h => exact ht h
  case isFalse => exact .refl

/-- What a command does that acts only while the station runs. -/
theorem Changes.ofRunning {f : State → State} (h : s.Running → RunningChanges s (f s)) :
    Changes s (whenRunning f s) :=
  Changes.ite _ fun hrun => ((h hrun).changes hrun).2

theorem Changes.ofExpiry {f : State → State} (timer : Timer) (h : ∀ d, RunningChanges (s.advance d) (f (s.advance d)))
    (hrun : s.Running) : Changes s (onExpiry timer f s) := by
  cases timer with
  | none => exact .refl
  | some d => exact .head (.elapse d) ((h d).changes (s := s.advance d) hrun).2

theorem Changes.ofPhase {f : State → State} (phase : Phase)
    (h : ∀ t : State, t.supply.phase = phase → Change t (f t)) : Changes s (onPhaseEnd phase f s) := by
  refine Changes.ite _ fun hphase => ?_
  cases s.supply.phaseTimer with
  | none => exact .refl
  | some d => exact .head (.elapse d) (.single (h (s.advance d) hphase))

theorem headEvent_changes {f : State → State} (h : RunningChanges s (f s)) : RunningChanges s (headEvent f s) := by
  unfold headEvent
  dsimp only
  split
  · exact h
  · exact h.tail .routine

theorem Changes.ofHeadTimer {f : State → State} (state : HeadState)
    (h : ∀ t : State, t.head.state = state → t.head.alarm = s.head.alarm → RunningChanges t (f t)) (hrun : s.Running) :
    Changes s (onHeadTimer state f s) :=
  Changes.ite _ fun hstate =>
    Changes.ofExpiry _ (fun d => headEvent_changes (h (s.advance d) hstate rfl)) hrun

theorem acceptKey_changes {act : State → State} (key : Nat) (w : IrWord)
    (hact : ∀ t : State, RunningChanges t (act t)) : RunningChanges s (acceptKey key w act s) := by
  have hpress : RunningChange s (s.withIr { s.ir with
      press := some { key := key, since := s.now }
      checkError := false, siteMismatch := false, overflow := false }) := .ir _ fun _ => .inl
  exact (((ChangeRun.single hpress).trans (hact _)).tail (.ir _ fun _ => .inl)).tail (.ir _ fun _ => .inl)

theorem onAccepted_changes {act : State → State} (wanted : Nat → Bool) (w : IrWord)
    (hact : ∀ t : State, RunningChanges t (act t)) : RunningChanges s (onAccepted wanted w act s) :=
  onAccepted_keeps (P := RunningChanges s) wanted w .refl fun key => acceptKey_changes key w hact

/-! ### The roster (04) -/

theorem evaluateConflict_changes : RunningChanges s (evaluateConflict s) := by
  have hshown : RunningChange s { s with
      roster := { s.roster with conflict := conflictOf s.settings.address s.roster.entries } } := .rosterFlags _ rfl
  unfold evaluateConflict
  dsimp only
  split
  · exact .single hshown
  · exact (ChangeRun.single hshown).tail .routine

theorem applyMessage_serial (m : Message) (e : Entry) : (applyMessage m e).serial = e.serial := by cases m <;> rfl

theorem dropSerial_serial_ne {serial : Serial} {es : List Entry} : ∀ x ∈ dropSerial serial es, x.serial ≠ serial :=
  fun x hx => ((mem_drop serial x es).1 hx).2

theorem refreshEntry_changes (via : Via) (m : Message) (e : Entry) (hm : MessageInRange m)
    (hfind : s.roster.find e.serial = some e) (hown : e.serial ≠ s.settings.serial) :
    RunningChanges s (refreshEntry via m e s) := by
  have hserial : (refreshed via m e).serial = e.serial := applyMessage_serial m _
  refine ChangeRun.trans (.single ?_) evaluateConflict_changes
  split
  case isTrue hdepth =>
    exact .oneEntry _ e (by rw [hserial]; exact hfind) hdepth (refreshed_inRange via m e hm)
  case isFalse =>
    refine .swap (classified s (refreshed via m e)) e (List.mem_of_find?_eq_some hfind) ?_ ?_ fun he =>
      classified_inRange s _ (refreshed_inRange via m e hm he)
    · exact fun x hx h => dropSerial_serial_ne x hx (h.trans hserial)
    · exact fun h => hown (hserial.symm.trans h)

/-- A newcomer's serial is its sender's, and its values are in range (R65). -/
theorem newcomer_serial_inRange (sender : Serial) (via : Via) (m : Message) (hm : MessageInRange m) (s : State) :
    (classified s (applyMessage m (blankEntry sender via))).serial = sender ∧
      EntryInRange (classified s (applyMessage m (blankEntry sender via))) :=
  ⟨applyMessage_serial m _, classified_inRange s _ (applyMessage_inRange m _ hm (blankEntry_inRange sender via))⟩

theorem serial_ne_of_find_none {serial : Serial} (h : s.roster.find serial = none) :
    ∀ x ∈ s.roster.entries, x.serial ≠ serial := by
  simpa [Roster.find] using h

theorem takeNewcomer_changes (sender : Serial) (via : Via) (m : Message) (hm : MessageInRange m)
    (hfind : s.roster.find sender = none) (hown : sender ≠ s.settings.serial) :
    RunningChanges s (takeNewcomer sender via m s) := by
  obtain ⟨hserial, hrange⟩ := newcomer_serial_inRange sender via m hm s
  have hnew := serial_ne_of_find_none hfind
  unfold takeNewcomer
  split
  case isTrue hroom =>
    refine ChangeRun.trans (.single ?_) evaluateConflict_changes
    exact .enter _ hroom (by rwa [hserial]) (by rwa [hserial]) hrange
  case isFalse =>
    cases hold : oldestStale s.roster.entries with
    | none => exact .single (.rosterFlags _ rfl)
    | some old =>
      refine ChangeRun.trans (.single ?_) evaluateConflict_changes
      refine .swap _ old (oldestStale_some _ _ hold).1 (fun x hx => ?_) (by rwa [hserial]) fun _ => hrange
      rw [hserial]
      exact hnew x ((mem_drop _ _ _).1 hx).1

theorem takeIn_changes (sender : Serial) (via : Via) (m : Message) (hm : MessageInRange m)
    (hown : sender ≠ s.settings.serial) : RunningChanges s (takeIn sender via m s) := by
  unfold takeIn
  cases hfind : s.roster.find sender with
  | none => exact takeNewcomer_changes sender via m hm hfind hown
  | some e =>
    have hserial := find_serial _ _ _ hfind
    subst hserial
    exact refreshEntry_changes via m e hm hfind hown

/-- A removal by ageing, of entries already chosen. -/
theorem afterRemoval_changes (es : List Entry) (hes : RunningChanges s (s.withEntries es)) :
    RunningChanges s (afterRemoval es s) := by
  refine hes.trans (ChangeRun.head ?_ evaluateConflict_changes)
  exact .rosterFlags _ rfl

theorem settleState_key (e : Entry) : e.settleState.serial = e.serial ∧ e.settleState.depth = e.depth := by
  unfold Entry.settleState; split <;> exact ⟨rfl, rfl⟩

theorem ageRoster_changes : RunningChanges s (ageRoster s) := by
  refine afterRemoval_changes _ ?_
  have haged : RunningChange s (s.withEntries (s.roster.entries.map Entry.aged)) :=
    .eachEntry _ (fun _ => ⟨rfl, rfl⟩) aged_inRange
  exact ((ChangeRun.single haged).tail (.eachEntry _ settleState_key settleState_inRange)).tail (.someStay _)

theorem staleEntry_changes (serial : Serial) : RunningChanges s (staleEntry serial s) := by
  unfold staleEntry
  cases hfind : s.roster.find serial with
  | none => exact .refl
  | some e =>
    have hserial := find_serial _ _ _ hfind
    subst hserial
    obtain ⟨hkey, hdepth⟩ := settleState_key e
    exact ChangeRun.trans (.single (.oneEntry _ e (by rwa [hkey]) hdepth (settleState_inRange e)))
      evaluateConflict_changes

theorem removeEntry_changes (serial : Serial) : RunningChanges s (removeEntry serial s) := by
  unfold removeEntry
  cases s.roster.find serial with
  | none => exact .refl
  | some e =>
    dsimp only
    split
    · exact .refl
    · exact afterRemoval_changes _ (.single (.someStay _))

theorem reclassifyAll_changes : RunningChanges s (reclassifyAll s) :=
  .single (.eachEntry (classified s) (fun _ => ⟨rfl, rfl⟩) (classified_inRange s))

/-! ### The sounding unit (03) -/

theorem truncate_changes (r : TailReadings) : RunningChanges s (truncate r s) := by
  rw [truncate_eq]
  refine .single (.sounding _ (.inl ?_) fun o ho => ?_)
  · cases s.sounding.obs with
    | none => exact ⟨rfl, rfl⟩
    | some o => dsimp only; split <;> exact ⟨rfl, rfl⟩
  · cases hobs : s.sounding.obs with
    | none => simp [hobs] at ho
    | some old =>
      simp only [hobs] at ho
      split at ho
      · exact ⟨o, hobs ▸ ho, rfl⟩
      · cases ho

theorem abandon_changes (r : TailReadings) : RunningChanges s (abandon r s) := by
  rw [abandon_eq]
  cases hobs : s.sounding.obs with
  | none => exact .single (.sounding _ (.inl ⟨rfl, rfl⟩) fun o ho => ⟨o, ho, rfl⟩)
  | some old => exact .single (.sounding _ (.inl ⟨rfl, rfl⟩) fun o ho => nomatch ho)

theorem turned_trim (o : Observation) (now : Nat) (before after : Orientation) :
    (o.turned now before after).trim = o.trim := by
  unfold Observation.turned; (repeat' split) <;> rfl

theorem dropOwnMerge_changes (before : Orientation) : RunningChanges s (dropOwnMerge before s) := by
  unfold dropOwnMerge
  cases s.sounding.ownMerge with
  | none => exact .refl
  | some m => exact .ite _ fun _ => .single (.sounding _ (.inl ⟨rfl, rfl⟩) fun o ho => ⟨o, ho, rfl⟩)

theorem clearFigures_changes : RunningChanges s (clearFigures s) := by
  have hown : RunningChange s { s with sounding := { s.sounding with ownDepth := none, ownQuality := 0 } } :=
    .sounding _ (.inr ⟨rfl, rfl⟩) fun o ho => ⟨o, ho, rfl⟩
  exact ((ChangeRun.single hown).tail
    (.eachEntry Entry.withoutFigures (fun _ => ⟨rfl, rfl⟩) withoutFigures_inRange)).trans
    reclassifyAll_changes

theorem changeOrientation_changes (after : Orientation) : RunningChanges s (changeOrientation after s) := by
  have hport : RunningChange s { s with
      port := { s.port with orientation := after, candidate := after, run := 0 } } := .port _ rfl
  have hturned : RunningChanges s { s with
      port := { s.port with orientation := after, candidate := after, run := 0 }
      sounding := { s.sounding with obs := s.sounding.obs.map fun o => o.turned s.now s.port.orientation after } } := by
    refine (ChangeRun.single hport).tail (.sounding _ (.inl ⟨rfl, rfl⟩) fun o ho => ?_)
    obtain ⟨old, hold, rfl⟩ := Option.map_eq_some_iff.1 ho
    exact ⟨old, hold, turned_trim _ _ _ _⟩
  unfold changeOrientation
  dsimp only
  split
  · exact (hturned.trans (dropOwnMerge_changes _)).trans clearFigures_changes
  · exact hturned

theorem takeReading_changes (reading : Int) : RunningChanges s (takeReading reading s) := by
  unfold takeReading
  split
  · exact .refl
  refine ChangeRun.head (.port _ rfl : RunningChange s (noteReading s)) ?_
  unfold actOnReading
  split
  · exact .single (.port _ rfl)
  split
  · exact changeOrientation_changes _
  · exact .single (.port _ rfl)

/-! ### The presence scheduler (06) -/

theorem presenceDue_changes : RunningChanges s (presenceDue s) := by
  have hstopped : RunningChange s { s with sched := { s.sched with timer := none } } := .schedule _ rfl rfl
  unfold presenceDue
  dsimp only
  split
  · exact (ChangeRun.single hstopped).tail (.schedule _ rfl rfl)
  · exact (ChangeRun.single hstopped).tail .routine

/-! ### Reception (02, 09) -/

theorem takeQuery_changes (requester : Serial) (item : Nat) (index : Option Nat)
    (hfree : s.sender.reply.filled = false) (hlockout : s.retained.lockout = false) :
    RunningChanges s (takeQuery requester item index s) := by
  have hrecorded := RunningChange.query { requester := requester, item := item, index := index } hfree hlockout
  unfold takeQuery
  dsimp only
  split
  · exact (ChangeRun.single hrecorded).tail (.indicator _)
  · exact .single hrecorded

theorem deliverQuery_changes (requester : Serial) (selector : Selector) (item : Nat) (index : Option Nat) :
    RunningChanges s (deliverQuery requester selector item index s) := by
  unfold deliverQuery
  split
  · exact .refl
  split
  · exact .single .exempt
  split
  · exact .refl
  case isFalse h =>
    simp only [not_or, Bool.not_eq_true] at h
    exact takeQuery_changes requester item index h.1 h.2

theorem hearTail_changes (sender : Serial) (p : PresenceIn) (htrim : TrimInRange p.trim) :
    RunningChanges s (hearTail sender p s) :=
  .ite _ fun _ => .single (.observe _ (.inr htrim))

theorem deliver_changes (sender : Serial) (via : Via) (m : Message) (hm : MessageInRange m) :
    RunningChanges s (deliver sender via m s) := by
  unfold deliver
  split
  · exact .single (.rosterFlags _ rfl)
  case isFalse hown =>
    have hroster := takeIn_changes sender via m hm hown
    cases m with
    | presence p => exact hroster.trans (hearTail_changes sender p hm.2.2.2.2)
    | test address kind number typeTested => exact hroster.tail (.journal _ (by simp [peerEntry]))
    | query selector item index => exact deliverQuery_changes sender selector item index
    | quiet duration => exact .single (.quiet duration)
    | reply => exact hroster

theorem takeReception_changes (stored : Site) (f : RxFrame) (heard : Heard) :
    RunningChanges s (takeReception (receptionOf stored f heard) s) := by
  cases h : receptionOf stored f heard with
  | delivered sender via iDamaged m =>
    refine ChangeRun.head (.receiver _ : RunningChange s (countGood iDamaged s)) ?_
    exact deliver_changes sender via m (receptionOf_inRange stored f heard sender via iDamaged m h)
  | foreign => exact .single (.receiver _)
  | discarded kind => exact .single (.receiver _)

theorem receiveIf_changes (wanted : Reception → Bool) (heard : Heard) :
    RunningChanges s (receiveIf wanted heard s) := by
  unfold receiveIf
  cases s.endedFrame heard with
  | some f =>
    exact .ite _ fun _ => ChangeRun.head (.receiver _ : RunningChange s (dropEnded s)) (takeReception_changes _ f heard)
  | none =>
    cases s.tailFrame heard with
    | some f =>
      exact .ite _ fun _ =>
        ChangeRun.head (.receiver _ : RunningChange s (dropTailFrame f heard s)) (takeReception_changes _ f heard)
    | none => exact .refl

/-! ### The line (01) -/

theorem pickSlot_filled {x : LineSender} {k : OutKind} (h : pickSlot x = some k) : (x.slot k).filled = true := by
  unfold pickSlot at h
  (repeat' split at h) <;> cases h <;> assumption

theorem beginMessage_changes (k : OutKind) (hwaiting : s.sender.state = .waiting)
    (hfilled : (s.sender.slot k).filled = true) : RunningChanges s (beginMessage k s) := by
  have hready : RunningChanges s (beforeCapture k s) := by
    cases k with
    | presence => exact .single (.schedule _ rfl rfl)
    | test => exact .refl
    | reply => exact .refl
  cases hfields : captureFields (beforeCapture k s) k with
  | none => simpa only [beginMessage, hfields] using ChangeRun.refl
  | some fields =>
    simp only [beginMessage, hfields]
    exact (hready.tail (.start _ (by simpa using hwaiting) (by simpa using hfilled))).tail (.receiver _)

theorem contend_changes : RunningChanges s (contend s) := by
  refine .ite _ fun hwaiting => ?_
  cases hpick : pickSlot s.sender with
  | none => exact .refl
  | some k => exact beginMessage_changes k hwaiting (pickSlot_filled hpick)

theorem lineBecomesIdle_changes (heard : IdleHearing) : RunningChanges s (lineBecomesIdle heard s) := by
  refine .ite _ fun _ => ChangeRun.head (.receiver _ : RunningChange s (judgeIdle s)) ?_
  refine ChangeRun.trans ?_ ((truncate_changes heard.tail).trans contend_changes)
  cases heard.frame with
  | none => exact .refl
  | some h => exact receiveIf_changes _ h

theorem hearStart_changes (dip : Int) : RunningChanges s (hearStart dip s) := by
  unfold hearStart
  (repeat' split)
  · exact .refl
  · exact .single (.receiver _)
  · exact .single (.receiver _)

theorem loseContention_changes (cell : Nat) (dip : Int) (hrun : s.Running) : Changes s (loseContention cell dip s) := by
  unfold loseContention
  cases hout : s.sender.outgoing with
  | none => exact .refl
  | some o =>
    have hretried := RunningChange.retry (s := s.advance (o.cellMoment cell)) o _ hout (.inl rfl)
    exact Changes.ite _ fun _ => .head (.elapse _) (.single (.running hrun hretried))

theorem abortMessage_changes (o : Outgoing) (hout : s.sender.outgoing = some o) :
    RunningChanges s (abortMessage o.kind s) := by
  have hdropped : RunningChange s (dropOwnFrame s) := .receiver _
  unfold abortMessage
  dsimp only
  split
  case isTrue hcount => exact (ChangeRun.single hdropped).tail (.retry o _ hout (.inr hcount))
  case isFalse => exact (ChangeRun.single hdropped).tail (.discard o hout)

theorem meetMismatch_changes (half : Nat) (dips : CellDips) (hrun : s.Running) :
    Changes s (meetMismatch half dips s) := by
  unfold meetMismatch
  cases hout : s.sender.outgoing with
  | none => exact .refl
  | some o =>
    have hsink : RunningChange (s.advance (o.halfMoment half)) (noteSink (s.sinkBeforeAbort o half
        (judgedHalf half dips)) (s.advance (o.halfMoment half))) := .receiver _
    exact Changes.ite _ fun _ => .head (.elapse (o.halfMoment half))
      (RunningChanges.changes (s := s.advance (o.halfMoment half)) hrun
        (.head hsink (abortMessage_changes o hout))).2

theorem winContention_changes (hrun : s.Running) : Changes s (winContention s) := by
  unfold winContention
  cases s.sender.outgoing with
  | none => exact .refl
  | some o => exact Changes.ite _ fun hcontending => .head (.elapse _) (.single (.running hrun (.win hcontending)))

/-- The message on the line has been sent, at the moment its last cell ends. -/
theorem messageSent_changes (o : Outgoing) (lastSink : Nat) (hout : s.sender.outgoing = some o) :
    RunningChanges s
      (let off := leaveLine (if o.soundFollows = true then .quietCells else .waiting)
        (dropOwnFrame (noteSink lastSink s))
      messageEnded o.kind { off with sender := { off.sender with
        tailAt := if o.soundFollows = true then off.timerFor Config.quietCells else none } }) := by
  have hsink : RunningChange s (noteSink lastSink s) := .receiver _
  have hdropped : RunningChange (noteSink lastSink s) (dropOwnFrame (noteSink lastSink s)) := .receiver _
  refine ((ChangeRun.single hsink).tail hdropped).tail ?_
  cases o.soundFollows with
  | true => exact .sent (s := dropOwnFrame (noteSink lastSink s)) o (some (s.now + Config.quietCells)) hout
  | false => exact .sent (s := dropOwnFrame (noteSink lastSink s)) o none hout

theorem sendComplete_changes (hrun : s.Running) : Changes s (sendComplete s) := by
  unfold sendComplete
  cases hout : s.sender.outgoing with
  | none => exact .refl
  | some o =>
    exact Changes.ite _ fun _ => .head (.elapse (o.startedAt + frameTime o.fields.length))
      (RunningChanges.changes (s := s.advance (o.startedAt + frameTime o.fields.length)) hrun
        (messageSent_changes o _ hout)).2

theorem beginOwnTail_changes (hquiet : s.sender.state = .quietCells) : RunningChanges s (beginOwnTail s) := by
  have hline : RunningChange s { s with rx := { s.rx with idleInTail := false } } := .receiver _
  exact ((ChangeRun.single hline).tail (.ownTail (s.now + Config.tailTime) hquiet)).tail (.observe _ (.inl rfl))

theorem returnLine_changes (htail : s.sender.state = .tail) : RunningChanges s (returnLine s) := by
  unfold returnLine
  dsimp only
  split
  · exact (ChangeRun.single (.lineBack htail)).tail (.receiver _)
  · exact .single (.lineBack htail)

/-- A tail that ends: where the next end is that of the own tail, the sender is in it. -/
theorem endTail_changes (r : TailReadings) (hends : s.tailEndsAt ≠ none) : RunningChanges s (endTail r s) := by
  have hdecided : RunningChanges s (if s.observedEnd = s.tailEndsAt then decideObservation r s else s) :=
    .ite _ fun _ => .single (.decide r)
  unfold endTail
  dsimp only
  split
  case isTrue hown =>
    refine hdecided.trans (returnLine_changes ?_)
    have htail : s.sender.state = .tail := by
      refine Decidable.byContradiction fun h => ?_
      simp only [State.ownTailEnd, h, if_false] at hown
      exact hends hown.symm
    split <;> simpa using htail
  case isFalse => exact hdecided

theorem tailEnd_changes (r : TailReadings) (hrun : s.Running) :
    Changes s (onExpiry s.tailEndsAt (endTail r) s) := by
  cases hends : s.tailEndsAt with
  | none => exact .refl
  | some d =>
    have hne : (s.advance d).tailEndsAt ≠ none := by
      show s.tailEndsAt ≠ none
      simp [hends]
    exact .head (.elapse d) ((endTail_changes r hne).changes (s := s.advance d) hrun).2

/-! ### The head supervisor (07) -/

theorem announce_changes (kind : TestKind) : RunningChanges s (announce kind s) := by
  unfold announce eventOf
  cases hnumber : s.head.record.number with
  | none => exact .refl
  | some number =>
    cases s.head.record.type with
    | none => exact .refl
    | some type =>
      refine ChangeRun.head (.event _ hnumber) (ChangeRun.head (.journal _ ?_) (.single (.fillTest ?_)))
      · rfl
      · rfl

theorem confirmAlarm_changes (hstate : s.head.state = .confirming) : RunningChanges s (confirmAlarm s) := by
  have hkept : ∀ (kind : TestKind) (t : State), (announce kind t).head.state = t.head.state ∧
      (announce kind t).head.record = t.head.record := by
    intro kind t
    unfold announce
    split <;> simp [State.withHead]
  refine ChangeRun.head (.confirmRecord hstate) ((announce_changes (confirmKind s.head.record)).trans
    (ChangeRun.head (.latch _) (.single (.resetHead 0 (by decide) (.inl ?_) fun _ => ?_))))
  · exact (hkept _ _).1.trans hstate
  · show (announce _ _).head.record.state ≠ _
    rw [(hkept _ _).2]
    exact TestState.noConfusion

theorem endRecovering_changes (hstate : s.head.state = .recovering) : RunningChanges s (endRecovering s) := by
  unfold endRecovering
  split
  case isTrue halarm => exact .single (.recovered hstate halarm)
  split
  case isTrue hfew =>
    exact .single (.resetHead _ (Nat.lt_succ_iff.1 hfew) (.inr (.inl hstate)) fun h => by rw [hstate] at h; cases h)
  case isFalse => exact ChangeRun.head (.stuckRecord hstate) (announce_changes .stuck)

theorem clearHead_changes : RunningChanges s (clearHead s) :=
  .ite _ fun hstuck => .single (.resetHead 0 (by decide) (.inr (.inr hstuck)) fun h => by rw [hstuck] at h; cases h)

/-! ### The second tick (10) -/

theorem secondTick_changes (through : Option Int) (identity : BitVec 10) :
    RunningChanges s (secondTick through identity s) := by
  have haged : RunningChanges s (ageRoster (countSecond s)) := ChangeRun.head .tick ageRoster_changes
  have hread : RunningChanges s (readingAtTick through (ageRoster (countSecond s))) := by
    cases through with
    | none => exact haged
    | some reading => exact haged.trans (takeReading_changes reading)
  exact hread.trans (headEvent_changes (.single (.identity identity.toNat)))

/-! ### The isolator (10) -/

theorem openIsolator_changes (r : TailReadings) (hclosed : s.isolator.state = .closed) :
    RunningChanges s (openIsolator r s) := by
  have hnoted : RunningChanges s (abandon r (noteCrossing s)) :=
    ChangeRun.head (.receiver _) (abandon_changes r)
  have hobs : (abandon r (noteCrossing s)).sounding.obs = none := by
    rw [abandon_eq]
    dsimp only
    cases h : (noteCrossing s).sounding.obs with
    | none => exact h
    | some o => rfl
  have hopened : RunningChange (abandon r (noteCrossing s)) { abandon r (noteCrossing s) with
      isolator := { (abandon r (noteCrossing s)).isolator with
        state := .openWait, timer := (abandon r (noteCrossing s)).timerFor Config.openWaitTime } } :=
    .openIsolator _ (by simpa using hclosed) hobs
  refine (hnoted.tail hopened).trans (ChangeRun.head ?_ (.single .routine))
  exact .port _ rfl

theorem closeIsolator_changes (htrial : s.isolator.state = .trial) : RunningChanges s (closeIsolator s) := by
  have hnoted : RunningChange s (noteCrossing s) := .receiver _
  have hclosed : RunningChange (noteCrossing s) { noteCrossing s with
      isolator := { state := .closed, failed := 0, timer := none } } := .closeIsolator htrial
  refine ((ChangeRun.single hnoted).tail hclosed).trans (ChangeRun.head ?_ (.single .routine))
  exact .port _ rfl

theorem meetShort_changes (r : TailReadings) : RunningChanges s (meetShort r s) := by
  unfold meetShort
  cases h : s.isolator.state with
  | closed => exact openIsolator_changes r h
  | trial => exact .ite _ fun _ => .single (.failTrial h)
  | openWait => exact .refl
  | latched => exact .refl

/-! ### The IR entry port (11) -/

theorem giveFeedback_change (kind : FeedbackKind) (s : State) : RunningChange s (giveFeedback kind s) := .indicator _

theorem leaveEntry_changes : RunningChanges s (leaveEntry s) := .single (.ir _ fun _ => .inl)

theorem entryError_changes : RunningChanges s (entryError s) := leaveEntry_changes.tail (.indicator _)

theorem pressDigit_changes (digit : Nat) : RunningChanges s (pressDigit digit s) := by
  unfold pressDigit
  split
  · split
    · exact .single (.ir _ fun _ => .inl)
    · exact entryError_changes
  · exact .single (.ir _ fun _ => .inl)

theorem beginWrite_changes (site : Site) (address : Nat) (h : address ≤ 240 ∨ address = s.settings.address) :
    RunningChanges s (beginWrite site address s) := by
  have hfree : RunningChange s { s with free := s.free + 1 } := .free _
  refine ((ChangeRun.single hfree).tail (.ir _ fun w hw => ?_)).tail (.settings _ rfl rfl (.inl rfl))
  cases hw
  exact .inr h

theorem pressEnter_changes (w : IrWord) : RunningChanges s (pressEnter w s) := by
  unfold pressEnter
  split
  · split
    case isTrue hvalue => exact beginWrite_changes _ _ (.inl hvalue)
    case isFalse => exact entryError_changes
  · exact entryError_changes

theorem pressSiteClear_changes : RunningChanges s (pressSiteClear s) := by
  unfold pressSiteClear
  split
  · exact entryError_changes
  · exact beginWrite_changes _ _ (.inr rfl)

theorem pressClear_changes : RunningChanges s (pressClear s) :=
  ((headEvent_changes clearHead_changes).tail .clearIsolator).trans leaveEntry_changes

theorem rememberWord_changes (w : IrWord) : RunningChanges s (rememberWord w s) := .single (.ir _ fun _ => .inl)

theorem pressRestart_changes (w : IrWord) (hrun : s.Running) : Changes s (pressRestart w s) := by
  unfold pressRestart
  cases judgeWord s w with
  | accepted key => exact Changes.ite _ fun _ => ((acceptKey_changes key w fun _ => .refl).changes hrun).2
  | repeated key =>
    refine Changes.ite _ fun _ => ?_
    split
    · exact .single .restart
    · exact ((rememberWord_changes w).changes hrun).2
  | overflow => exact .refl
  | checkError => exact .refl
  | siteMismatch => exact .refl
  | outOfRange => exact .refl

theorem abandonHold_changes : RunningChanges s (abandonHold s) := .ite _ fun _ => .single (.ir _ fun _ => .inl)

theorem discardWord_changes (w : IrWord) : RunningChanges s (discardWord w s) := by
  unfold discardWord
  cases judgeWord s w with
  | overflow => exact .single (.ir _ fun _ => .inl)
  | checkError => exact .single (.ir _ fun _ => .inl)
  | siteMismatch =>
    have hflag : RunningChange s (s.withIr { s.ir with siteMismatch := true }) := .ir _ fun _ => .inl
    exact (ChangeRun.single hflag).tail (giveFeedback_change _ _)
  | outOfRange => exact .refl
  | repeated key =>
    dsimp only
    split
    · exact .refl
    · exact abandonHold_changes.trans (rememberWord_changes w)
  | accepted key => exact .refl

theorem endWrite_changes (site : Site) (address check : Byte) (x : Write) (hx : s.ir.write = some x) :
    RunningChanges s (endWrite site address check x s) := by
  have hdone : ∀ t : State, RunningChanges t (endStoring t) := fun t => .single (.ir _ fun _ h => nomatch h)
  unfold endWrite
  dsimp only
  split
  · have hstored : RunningChange s { s with settings := { s.settings with
        record := programmed x, site := x.site, address := x.address, recovered := false } } :=
      .settings _ rfl rfl (.inr ⟨x, hx, rfl⟩)
    refine ChangeRun.trans ?_ (hdone _)
    refine ChangeRun.tail ?_ (giveFeedback_change _ _)
    have hevaluated := (ChangeRun.single hstored).trans evaluateConflict_changes
    split
    · exact hevaluated
    · exact hevaluated.tail .exempt
  · have hread : RunningChange s { s with settings := { s.settings with
        record := { site := site, address := address, check := check, mark := false } } } :=
      .settings _ rfl rfl (.inl rfl)
    exact ((ChangeRun.single hread).tail (giveFeedback_change _ _)).trans (hdone _)

theorem settingsWrite_changes (site : Site) (address check : Byte) (hrun : s.Running) :
    Changes s (match s.ir.write with
      | none => s
      | some x => endWrite site address check x (s.advance x.endsAt)) := by
  cases hx : s.ir.write with
  | none => exact .refl
  | some x =>
    exact .head (.elapse x.endsAt)
      (RunningChanges.changes (s := s.advance x.endsAt) hrun (endWrite_changes site address check x hx)).2

end Sys2Proof.Machine
end

section
/-! SUPPORT. Every command as a run of elementary changes (`exec_changes`), and the properties that steps keep by it
(`kept_by_step`). -/

namespace Sys2Proof.Machine

variable {s : State}

/-- What a command does at the moment it names, while the station runs. -/
theorem Changes.ofRunningAt {f : State → State} (t : Nat) (h : ∀ x : State, RunningChanges x (f x)) :
    Changes s (whenRunning f (s.advance t)) :=
  .head (.elapse t) (Changes.ofRunning fun _ => h _)

/-- What a command does at the end of a timer, while the station runs. -/
theorem Changes.ofRunningExpiry {f : State → State} (timer : State → Timer)
    (h : ∀ t : State, RunningChanges t (f t)) : Changes s (whenRunning (fun s => onExpiry (timer s) f s) s) :=
  .ite _ fun hrun => .ofExpiry _ (fun _ => h _) hrun

/-- What a command does to the head at the end of its timer, while the station runs. -/
theorem Changes.ofRunningHead {f : State → State} (state : HeadState)
    (h : ∀ t : State, t.head.state = state → RunningChanges t (f t)) :
    Changes s (whenRunning (onHeadTimer state f) s) :=
  .ite _ fun hrun => .ofHeadTimer state (fun t ht _ => h t ht) hrun

/-- Every command ends with the indicator set to the first condition present, after a run of elementary changes. -/
theorem exec_done (c : Instr) (s : State) : ∃ x, exec c s = done x ∧ Changes s x := by
  cases c with
  | lineIdle t heard => exact ⟨_, rfl, .ofRunningAt t fun _ => lineBecomesIdle_changes heard⟩
  | startLeadingEdge t dip => exact ⟨_, rfl, .ofRunningAt t fun _ => hearStart_changes dip⟩
  | contentionLost cell dip => exact ⟨_, rfl, .ite _ fun hrun => loseContention_changes cell dip hrun⟩
  | sendMismatch half dips => exact ⟨_, rfl, .ite _ fun hrun => meetMismatch_changes half dips hrun⟩
  | messageSent => exact ⟨_, rfl, .ite _ fun hrun => sendComplete_changes hrun⟩
  | ownTailStart =>
    refine ⟨_, rfl, .ite _ fun hrun => .ite _ fun hquiet => ?_⟩
    exact .ofExpiry _ (fun d => beginOwnTail_changes (s := s.advance d) hquiet) hrun
  | tailEnd r => exact ⟨_, rfl, .ite _ fun hrun => tailEnd_changes r hrun⟩
  | sinkLockout drawn => exact ⟨_, rfl, .head (.elapse _) (Changes.ite _ fun h => .single (.lockout h.1))⟩
  | presence t h => exact ⟨_, rfl, .ofRunningAt t fun _ => receiveIf_changes _ h⟩
  | test t h => exact ⟨_, rfl, .ofRunningAt t fun _ => receiveIf_changes _ h⟩
  | query t h => exact ⟨_, rfl, .ofRunningAt t fun _ => receiveIf_changes _ h⟩
  | quiet t h => exact ⟨_, rfl, .ofRunningAt t fun _ => receiveIf_changes _ h⟩
  | reply t h => exact ⟨_, rfl, .ofRunningAt t fun _ => receiveIf_changes _ h⟩
  | frameDiscarded t h => exact ⟨_, rfl, .ofRunningAt t fun _ => receiveIf_changes _ h⟩
  | secondTick through identity =>
    exact ⟨_, rfl, .ofRunningExpiry (fun s => s.supply.tickAt) fun _ => secondTick_changes through identity⟩
  | orientationChange t reading => exact ⟨_, rfl, .ofRunningAt t fun _ => takeReading_changes reading⟩
  | entryStale serial => exact ⟨_, rfl, .ofRunning fun _ => staleEntry_changes serial⟩
  | entryRemoved serial => exact ⟨_, rfl, .ofRunning fun _ => removeEntry_changes serial⟩
  | presenceTimerExpiry => exact ⟨_, rfl, .ofRunningExpiry (fun s => s.sched.timer) fun _ => presenceDue_changes⟩
  | quietEnd => exact ⟨_, rfl, .ofRunningExpiry (fun s => s.sched.quietUntil) fun _ => .single .quietEnds⟩
  | alarmAsserted t => exact ⟨_, rfl, .ofRunningAt t fun _ => headEvent_changes (.single .assertAlarm)⟩
  | alarmReleased t => exact ⟨_, rfl, .ofRunningAt t fun _ => headEvent_changes (.single .releaseAlarm)⟩
  | settlingEnd => exact ⟨_, rfl, .ofRunningHead .settling fun _ h => .single (.settled h)⟩
  | confirmedAlarm =>
    refine ⟨_, rfl, .ite _ fun hrun => .ite _ fun _ => ?_⟩
    exact .ofHeadTimer .confirming (fun t h _ => confirmAlarm_changes h) hrun
  | resettingEnd => exact ⟨_, rfl, .ofRunningHead .resetting fun _ h => .single (.supplyBack h)⟩
  | recoveringEnd => exact ⟨_, rfl, .ofRunningHead .recovering fun _ h => endRecovering_changes h⟩
  | testedLatchExpiry => exact ⟨_, rfl, .ofRunningExpiry (fun s => s.head.testedLatch) fun _ => .single (.latch none)⟩
  | shortCriterion t sides through r =>
    exact ⟨_, rfl, .ofRunningAt t fun _ => .ite _ fun _ => meetShort_changes r⟩
  | openWaitExpiry =>
    refine ⟨_, rfl, .ite _ fun hrun => .ite _ fun hopen => ?_⟩
    exact .ofExpiry _ (fun d => .single (.tryAgain (s := s.advance d) hopen)) hrun
  | trialExpiry =>
    refine ⟨_, rfl, .ite _ fun hrun => .ite _ fun htrial => ?_⟩
    exact .ofExpiry _ (fun d => closeIsolator_changes (s := s.advance d) htrial) hrun
  | bandLow t mV => exact ⟨_, rfl, .head (.elapse t) (Changes.ite _ fun h => .single (.low h.1))⟩
  | bandNormal t mV => exact ⟨_, rfl, .head (.elapse t) (Changes.ite _ fun h => .single (.normal h.1))⟩
  | bandCritical t mV => exact ⟨_, rfl, .head (.elapse t) (Changes.ite _ fun _ => .single .reset)⟩
  | startBegin t mV kept => exact ⟨_, rfl, .head (.elapse t) (Changes.ite _ fun h => .single (.start kept h.1))⟩
  | clockSettle => exact ⟨_, rfl, .ofPhase _ fun _ h => .clockSettled h⟩
  | loadSettings => exact ⟨_, rfl, .ofPhase _ fun _ h => .settingsLoaded h⟩
  | selfTest heard r => exact ⟨_, rfl, .ofPhase _ fun _ h => .selfTested heard r h⟩
  | digit t w => exact ⟨_, rfl, .ofRunningAt t fun _ => onAccepted_changes _ w fun _ => pressDigit_changes _⟩
  | enter t w => exact ⟨_, rfl, .ofRunningAt t fun _ => onAccepted_changes _ w fun _ => pressEnter_changes w⟩
  | cancel t w => exact ⟨_, rfl, .ofRunningAt t fun _ => onAccepted_changes _ w fun _ => leaveEntry_changes⟩
  | sound t w => exact ⟨_, rfl, .ofRunningAt t fun _ => onAccepted_changes _ w fun _ => .single .exempt⟩
  | clear t w => exact ⟨_, rfl, .ofRunningAt t fun _ => onAccepted_changes _ w fun _ => pressClear_changes⟩
  | restart t w =>
    exact ⟨_, rfl, .head (.elapse t) (Changes.ite _ fun hrun => pressRestart_changes (s := s.advance t) w hrun)⟩
  | siteClear t w => exact ⟨_, rfl, .ofRunningAt t fun _ => onAccepted_changes _ w fun _ => pressSiteClear_changes⟩
  | entryTimerExpiry => exact ⟨_, rfl, .ofRunningExpiry (fun s => s.ir.entryTimer) fun _ => leaveEntry_changes⟩
  | settingsWrite site address check =>
    exact ⟨_, rfl, .ite _ fun hrun => settingsWrite_changes site address check hrun⟩
  | irFeedbackEnd =>
    exact ⟨_, rfl, .ofRunningExpiry (fun s => s.indicator.feedback.map Feedback.endsAt) fun _ => .single (.indicator _)⟩
  | identifyTimerExpiry => exact ⟨_, rfl, .ofRunningExpiry (fun s => s.indicator.identify) fun _ => .single (.indicator _)⟩
  | lastSerialCellSent => exact ⟨_, rfl, .ite _ fun hrun => winContention_changes hrun⟩
  | irWordDiscarded t w => exact ⟨_, rfl, .ofRunningAt t fun _ => discardWord_changes w⟩

theorem refreshIndicator_change (s : State) : Change s s.refreshIndicator := by
  unfold State.refreshIndicator
  split
  · exact .pattern s.indicator rfl rfl
  · exact .pattern _ rfl rfl

/-- Every command is a run of elementary changes. -/
theorem exec_changes {c : Instr} {u : State} (h : exec c s = .next u) : Changes s u := by
  obtain ⟨x, hx, hchanges⟩ := exec_done c s
  rw [hx] at h
  cases h
  exact hchanges.tail (refreshIndicator_change x)

theorem Changes.keep {P : State → Prop} (hchange : ∀ s t, Change s t → P s → P t) {t : State} (h : Changes s t)
    (hs : P s) : P t := by
  induction h with
  | refl => exact hs
  | tail _ hstep ih => exact hchange _ _ hstep ih

/-- A property that does not read the queue and that every elementary change keeps is kept by every step. -/
theorem kept_by_step {P : State → Prop} (hqueue : ∀ s p, P s → P { s with pending := p })
    (hchange : ∀ s t, Change s t → P s → P t) (s u : State) (hs : P s) (hu : step s = .next u) : P u := by
  unfold step at hu
  cases hpending : s.pending with
  | nil =>
    simp only [hpending] at hu
    cases hu
    exact hs
  | cons c rest =>
    simp only [hpending] at hu
    exact (exec_changes hu).keep hchange (hqueue s rest hs)

end Sys2Proof.Machine
end

section
/-! SUPPORT. The start values of a station that does not run (R19, R63, R88, R109, R110, R142, R150, R151, R162, R184, R185), as
an invariant of the elementary changes. -/

namespace Sys2Proof.Machine

variable {s : State}

/-- What the lockout leaves (R12): the sender locked with empty slots, and the owners of what it discards told. -/
theorem lockSink_eq (s : State) : lockSink s =
    { s with
      retained := { s.retained with lockout := true }
      port := { s.port with cutoffOpen := true }
      rx := if s.sender.outgoing = none then s.rx else { s.rx with underWay := none }
      sender := { state := .locked }
      sched := { s.sched with
        timer := if s.sender.presence.filled = true then some (s.now + (seconds s.sched.interval + s.sched.offset))
          else s.sched.timer
        exempt := false, exemptRefill := false }
      reply := if s.sender.reply.filled = true then { record := none } else s.reply } := by
  cases hout : s.sender.outgoing <;> by_cases ht : s.sender.test.filled = true <;>
    by_cases hr : s.sender.reply.filled = true <;> by_cases hp : s.sender.presence.filled = true <;>
    simp [lockSink, hout, ht, hr, hp, tellDiscarded, LineSender.slot, tellOwner, clearMarks, dropOwnFrame,
      startPresenceTimer, State.timerFor]

theorem enterReset_startValues (s : State) : StartValues (enterReset s) := fun _ => by simp [enterReset]

theorem beginStart_startValues (cause : RestartCause) (h : StartValues s) (hrun : s.supply.phase ≠ .running) :
    StartValues (beginStart cause s) := by
  intro _
  obtain ⟨hrx, hsender, hsounding, hroster, hsched, hhead, hjournal, hreply, hisolator, hir, hport, hfeedback, hidentify,
    huptime, htick⟩ := h hrun
  refine ⟨hrx, ?_, hsounding, hroster, hsched, hhead, hjournal, hreply, hisolator, hir, ?_, hfeedback, hidentify, rfl, rfl⟩
  · simp only [beginStart]; rw [hsender]
  · simp only [beginStart]; rw [hport]

theorem Change.startValues {t : State} (h : Change s t) (hs : StartValues s) : StartValues t := by
  cases h with
  | running hrun h => exact fun hne => absurd (h.phase.trans hrun) hne
  | elapse d => exact hs
  | pattern x hfeedback hidentify =>
    intro hne
    obtain ⟨hrx, hsender, hsounding, hroster, hsched, hhead, hjournal, hreply, hisolator, hir, hport, hno, hnone, htimes⟩ :=
      hs hne
    exact ⟨hrx, hsender, hsounding, hroster, hsched, hhead, hjournal, hreply, hisolator, hir, hport, hfeedback.trans hno,
      hidentify.trans hnone, htimes⟩
  | low =>
    intro hne
    obtain ⟨hrx, hsender, hsounding, hrest⟩ := hs hne
    exact ⟨hrx, hsender, by simp [noteLow, State.withBand, hsounding], hrest⟩
  | normal =>
    intro hne
    obtain ⟨hrx, hsender, hsounding, hrest⟩ := hs hne
    exact ⟨hrx, hsender, by simp [noteNormal, State.withBand, hsounding], hrest⟩
  | lockout =>
    intro hne
    rw [lockSink_eq] at hne ⊢
    obtain ⟨hrx, hsender, hsounding, hroster, hsched, hhead, hjournal, hreply, hisolator, hir, hport, hrest⟩ := hs hne
    rw [hsender, hsched, hport]
    exact ⟨hrx, rfl, hsounding, hroster, rfl, hhead, hjournal, hreply, hisolator, hir, rfl, hrest⟩
  | reset => exact enterReset_startValues s
  | start kept hheld =>
    have hne : s.supply.phase ≠ .running := by simp [hheld]
    unfold startFromCritical
    split
    · exact beginStart_startValues _ hs hne
    · refine beginStart_startValues _ (fun _ => ?_) hne
      obtain ⟨hrx, hsender, hsounding, hroster, hsched, hhead, hjournal, hreply, hisolator, hir, hport, hrest⟩ := hs hne
      refine ⟨hrx, hsender, hsounding, hroster, hsched, hhead, hjournal, hreply, hisolator, hir, ?_, hrest⟩
      rw [hport]
  | restart => exact beginStart_startValues _ (enterReset_startValues s) Phase.noConfusion
  | clockSettled hphase => exact fun _ => hs (by simp [hphase])
  | settingsLoaded hphase =>
    intro _
    obtain ⟨hrx, hsender, hsounding, hroster, hsched, hrest⟩ := hs (by simp [hphase])
    refine ⟨hrx, hsender, hsounding, ?_, ?_, hrest⟩
    · simp [loadSettings, enterPhase, hroster, conflictOf]
    · simp only [loadSettings, enterPhase]; rw [hsched]
  | selfTested heard r => exact fun hne => absurd rfl hne

/-- Settles O6: what a start clears stays clear until RUNNING, through every elementary change of a step. -/
theorem startValuesKept : Obligations.StartValuesKept :=
  kept_by_step (fun _ _ h => h) fun _ _ h => h.startValues

end Sys2Proof.Machine
end

section
/-! SUPPORT. What a decided observation does to the entries (R56, R58, R94), and the roster's size, order and serials (R64, R66)
as an invariant of the elementary changes. -/

namespace Sys2Proof.Machine

variable {s : State}

/-! ### The decision (R42, R43, R46) -/

/-- The sounding unit once the samples of a whole tail stand in the store and its observation has ended. -/
def tailStored (r : TailReadings) (o : Observation) (x : Sounding) : Sounding :=
  { x with obs := none, vStore := vSamples r, iStore := iSamples o.noted r }

theorem decideObservation_flipped {o : Observation} (r : TailReadings) (hobs : s.sounding.obs = some o)
    (hflipped : o.flipped = true) : decideObservation r s = { s with sounding := tailStored r o s.sounding } := by
  simp [decideObservation, hobs, hflipped, tailStored]

theorem decideObservation_rejected {o : Observation} {k : RejectionKind} (r : TailReadings)
    (hobs : s.sounding.obs = some o) (hflipped : o.flipped = false)
    (hk : rejection o.low (vSamples r) (iSamples o.noted r) = some k) :
    decideObservation r s = { s with sounding := { tailStored r o s.sounding with lastRejection := k } } := by
  simp [decideObservation, hobs, hflipped, hk, reject, tailStored]

theorem decideObservation_accepted {o : Observation} (r : TailReadings)
    (hobs : s.sounding.obs = some o) (hflipped : o.flipped = false)
    (hpass : rejection o.low (vSamples r) (iSamples o.noted r) = none) :
    decideObservation r s = mergeObservation o (vSamples r) (iSamples o.noted r)
      { s with sounding := tailStored r o s.sounding } := by
  simp [decideObservation, hobs, hflipped, hpass, tailStored]

/-- A decision does nothing without an observation, else stores the samples, and merges figures only where every check has
passed. -/
theorem decideObservation_keeps {P : State → Prop} (r : TailReadings) (hs : P s)
    (hstored : ∀ o k, s.sounding.obs = some o →
      P { s with sounding := { tailStored r o s.sounding with lastRejection := k } })
    (hmerged : ∀ o, s.sounding.obs = some o → rejection o.low (vSamples r) (iSamples o.noted r) = none →
      P (mergeObservation o (vSamples r) (iSamples o.noted r) { s with sounding := tailStored r o s.sounding })) :
    P (decideObservation r s) := by
  cases hobs : s.sounding.obs with
  | none => simpa only [decideObservation, hobs] using hs
  | some o =>
    cases hflipped : o.flipped with
    | true =>
      rw [decideObservation_flipped r hobs hflipped]
      exact hstored o s.sounding.lastRejection hobs
    | false =>
      cases hk : rejection o.low (vSamples r) (iSamples o.noted r) with
      | some k =>
        rw [decideObservation_rejected r hobs hflipped hk]
        exact hstored o k hobs
      | none =>
        rw [decideObservation_accepted r hobs hflipped hk]
        exact hmerged o hobs hk

/-! ### The merges (R56, R58) -/

/-- A peer's figures go into the entry of its serial and nowhere else; its relation follows them. -/
theorem mergePeer_some {p : Serial} {e : Entry} (depth fraction : Nat) (hfind : s.roster.find p = some e) :
    ∃ rel, mergePeer p depth fraction s =
      s.withEntries (replaceEntry { mergeFigures depth fraction e with relation := rel } s.roster.entries) := by
  simp only [mergePeer, hfind]
  split
  · exact ⟨_, rfl⟩
  · exact ⟨_, rfl⟩

theorem mergePeer_none {p : Serial} (depth fraction : Nat) (hfind : s.roster.find p = none) :
    mergePeer p depth fraction s = s := by
  simp only [mergePeer, hfind]

/-- The sounding unit after an accepted own observation. -/
def ownMerged (noted : Orientation) (depth fraction : Nat) (s : State) : Sounding :=
  { s.sounding with
    ownDepth := some (merged s.sounding.ownQuality s.sounding.ownDepth depth)
    ownQuality := countUp Config.qualityTop s.sounding.ownQuality
    senseFault := decide (Config.senseLimit < fraction)
    ownMerge := some { decidedAt := s.now, noted := noted, faultBefore := s.sounding.senseFault } }

/-- The own figures move, and the entries change in their relations only. -/
theorem mergeOwn_entries (noted : Orientation) (depth fraction : Nat) (s : State) :
    ∃ rel : Entry → Relation, mergeOwn noted depth fraction s =
      { s with
        sounding := ownMerged noted depth fraction s
        roster := { s.roster with entries := s.roster.entries.map fun e => { e with relation := rel e } } } := by
  unfold mergeOwn
  dsimp only
  split
  · exact ⟨Entry.relation, by simp [ownMerged]⟩
  · exact ⟨_, rfl⟩

/-! ### The entries in their order, one for a serial (R64, R66) -/

/-- What the roster's invariant says of the entries of a station with the serial `own`. -/
structure EntriesFit (own : Serial) (es : List Entry) : Prop where
  room : es.length ≤ 250
  ordered : es.Pairwise Precedes
  oneForASerial : es.Pairwise fun a b => a.serial ≠ b.serial
  noneOwn : ∀ e ∈ es, e.serial ≠ own

theorem rosterFits_iff (s : State) : RosterFits s ↔
    EntriesFit s.settings.serial s.roster.entries ∧ (s.supply.phase ≠ .running → s.roster.entries = []) :=
  ⟨fun ⟨hroom, hordered, hone, hown, hempty⟩ => ⟨⟨hroom, hordered, hone, hown⟩, hempty⟩,
    fun ⟨⟨hroom, hordered, hone, hown⟩, hempty⟩ => ⟨hroom, hordered, hone, hown, hempty⟩⟩

/-- The order reads the announced depth and the serial alone. -/
theorem precedes_congr {a b a' b' : Entry} (ha : a'.serial = a.serial ∧ a'.depth = a.depth)
    (hb : b'.serial = b.serial ∧ b'.depth = b.depth) : Precedes a' b' ↔ Precedes a b := by
  unfold Precedes
  rw [ha.1, ha.2, hb.1, hb.2]

namespace EntriesFit

variable {own : Serial} {es : List Entry}

theorem nil : EntriesFit own [] := ⟨by simp, .nil, .nil, by simp⟩

theorem filter (h : EntriesFit own es) (p : Entry → Bool) : EntriesFit own (es.filter p) where
  room := Nat.le_trans (List.length_filter_le p es) h.room
  ordered := h.ordered.filter p
  oneForASerial := h.oneForASerial.filter p
  noneOwn e he := h.noneOwn e (List.mem_filter.1 he).1

/-- Entries that change in their places and keep serial and announced depth. -/
theorem map (h : EntriesFit own es) (f : Entry → Entry)
    (hkey : ∀ e ∈ es, (f e).serial = e.serial ∧ (f e).depth = e.depth) : EntriesFit own (es.map f) where
  room := by simpa using h.room
  ordered := List.pairwise_map.2 (h.ordered.imp_of_mem fun ha hb => (precedes_congr (hkey _ ha) (hkey _ hb)).2)
  oneForASerial := List.pairwise_map.2 (h.oneForASerial.imp_of_mem fun ha hb hne => by
    rwa [(hkey _ ha).1, (hkey _ hb).1])
  noneOwn e he := by
    obtain ⟨x, hx, rfl⟩ := List.mem_map.1 he
    rw [(hkey x hx).1]
    exact h.noneOwn x hx

/-- One entry changes in its place and keeps its announced depth. -/
theorem replace (h : EntriesFit own es) {e old : Entry} (hold : old ∈ es) (hserial : old.serial = e.serial)
    (hdepth : e.depth = old.depth) : EntriesFit own (replaceEntry e es) := by
  refine h.map _ fun x hx => ?_
  split
  case isTrue hxe =>
    rw [entry_eq_of_serial_eq es h.oneForASerial hx hold (hxe.trans hserial.symm)]
    exact ⟨hserial.symm, hdepth⟩
  case isFalse => exact ⟨rfl, rfl⟩

/-- An entry of a serial that is not there takes its place, where there is room. -/
theorem place (h : EntriesFit own es) {e : Entry} (hroom : es.length < 250) (hnew : ∀ x ∈ es, x.serial ≠ e.serial)
    (hown : e.serial ≠ own) : EntriesFit own (placeEntry e es) where
  room := by rw [length_place]; omega
  ordered := place_ordered e es h.ordered hnew
  oneForASerial := place_serials e es h.oneForASerial hnew
  noneOwn x hx := by
    rcases (mem_place e x es).1 hx with rfl | hx
    · exact hown
    · exact h.noneOwn x hx

end EntriesFit

/-- Without one of its entries a list is shorter. -/
theorem length_drop_lt {es : List Entry} {old : Entry} (hold : old ∈ es) :
    (dropSerial old.serial es).length < es.length :=
  List.length_filter_lt_length_iff_exists.2 ⟨old, hold, by simp⟩

theorem find_mem {p : Serial} {e : Entry} (h : s.roster.find p = some e) : e ∈ s.roster.entries :=
  List.mem_of_find?_eq_some h

/-- A merge keeps the entries in their order: it changes figures and relations. -/
theorem mergeObservation_entriesFit (o : Observation) (v i : List Int) (own : Serial)
    (h : EntriesFit own s.roster.entries) : EntriesFit own (mergeObservation o v i s).roster.entries := by
  unfold mergeObservation
  cases o.peer with
  | none =>
    obtain ⟨rel, hown⟩ := mergeOwn_entries o.noted (observationFigures o v i).1 (observationFigures o v i).2 s
    simp only [hown]
    exact h.map _ fun _ _ => ⟨rfl, rfl⟩
  | some p =>
    cases hfind : s.roster.find p with
    | none => simpa only [mergePeer, hfind] using h
    | some e =>
      obtain ⟨rel, hpeer⟩ := mergePeer_some (observationFigures o v i).1 (observationFigures o v i).2 hfind
      simp only [hpeer]
      exact h.replace (find_mem hfind) rfl rfl

theorem decideObservation_entriesFit (r : TailReadings) (own : Serial) (h : EntriesFit own s.roster.entries) :
    EntriesFit own (decideObservation r s).roster.entries :=
  decideObservation_keeps (P := fun x => EntriesFit own x.roster.entries) r h (fun _ _ _ => h)
    fun o _ _ => mergeObservation_entriesFit o _ _ own h

theorem RunningChange.entriesFit {t : State} (h : RunningChange s t) (hs : EntriesFit s.settings.serial s.roster.entries) :
    EntriesFit t.settings.serial t.roster.entries := by
  cases h with
  | decide r => simpa using decideObservation_entriesFit r _ hs
  | rosterFlags x hentries => simpa [hentries] using hs
  | eachEntry f hkey hrange => exact hs.map f fun e _ => hkey e
  | someStay p => exact hs.filter p
  | oneEntry e old hfind hdepth hrange => exact hs.replace (find_mem hfind) (find_serial _ _ _ hfind) hdepth
  | swap e old hold hnew hown hrange =>
    exact (hs.filter _).place (Nat.lt_of_lt_of_le (length_drop_lt hold) hs.room) hnew hown
  | enter e hroom hnew hown hrange => exact hs.place hroom hnew hown
  | settings x hserial htrim haddress => exact hserial ▸ hs
  | tick => exact hs
  | _ => simpa using hs

theorem Change.rosterFits {t : State} (h : Change s t) (hs : RosterFits s) : RosterFits t := by
  rw [rosterFits_iff] at *
  obtain ⟨hentries, hempty⟩ := hs
  cases h with
  | running hrun h => exact ⟨h.entriesFit hentries, fun hne => absurd (h.phase.trans hrun) hne⟩
  | elapse d => exact ⟨hentries, hempty⟩
  | pattern x => exact ⟨hentries, hempty⟩
  | low => exact ⟨hentries, hempty⟩
  | normal => exact ⟨hentries, hempty⟩
  | lockout => simpa using ⟨hentries, hempty⟩
  | reset => exact ⟨.nil, fun _ => rfl⟩
  | start kept hheld =>
    have hnone := hempty (by simp [hheld])
    unfold startFromCritical
    split <;> exact ⟨hentries, fun _ => hnone⟩
  | restart => exact ⟨.nil, fun _ => rfl⟩
  | clockSettled hphase => exact ⟨hentries, fun _ => hempty (by simp [hphase])⟩
  | settingsLoaded hphase =>
    have hnone : s.roster.entries = [] := hempty (by simp [hphase])
    simp [loadSettings, enterPhase, hnone, EntriesFit.nil]
  | selfTested heard r => exact ⟨hentries, fun hne => absurd rfl hne⟩

/-- Settles O7: placing, replacing, filtering and merging keep the order, in every elementary change of a step. -/
theorem rosterOrderKept : Obligations.RosterOrderKept :=
  kept_by_step (fun _ _ ⟨hroom, hordered, hone, hown, hempty⟩ => ⟨hroom, hordered, hone, hown, hempty⟩)
    fun _ _ h => h.rosterFits

end Sys2Proof.Machine
end

section
/-! SUPPORT. The figures in their ranges (R30, R53, R54, R56, R58), as an invariant of the elementary changes. The depth sample
is in range because no sample of an accepted observation is at an end of the converter's range. -/

namespace Sys2Proof.Machine

variable {s : State}

/-! ### The samples of an accepted observation (R42, R46, R50, R53, R54) -/

theorem vSamples_range (r : TailReadings) : ∀ x ∈ vSamples r, -2048 ≤ x ∧ x ≤ 2047 := by
  intro x hx
  obtain ⟨y, -, rfl⟩ := List.mem_map.1 hx
  simp only [toSample, Config.sampleLow, Config.sampleHigh]
  omega

theorem sampleAt_range {v : List Int} (hv : ∀ x ∈ v, -2047 ≤ x ∧ x ≤ 2046) (k : Nat) :
    -2047 ≤ sampleAt v k ∧ sampleAt v k ≤ 2046 := by
  unfold sampleAt
  by_cases hk : k < v.length
  · rw [getD_of_lt _ hk]
    exact hv _ (List.getElem_mem hk)
  · rw [getD_of_le _ (Nat.le_of_not_lt hk)]
    decide

theorem groupDip_le {v : List Int} (hv : ∀ x ∈ v, -2047 ≤ x ∧ x ≤ 2046) (i : Nat) : groupDip v i ≤ 8186 := by
  have h0 := sampleAt_range hv (4 * i)
  have h1 := sampleAt_range hv (4 * i + 1)
  have h2 := sampleAt_range hv (4 * i + 2)
  have h3 := sampleAt_range hv (4 * i + 3)
  unfold groupDip
  omega

theorem vAccumulation_le {v : List Int} (hv : ∀ x ∈ v, -2047 ≤ x ∧ x ≤ 2046) : vAccumulation v ≤ 130976 := by
  have hdip := groupDip_le hv
  have key : ∀ (l : List Nat) (acc : Int), (l.map (groupDip v)).foldl (· + ·) acc ≤ acc + 8186 * l.length := by
    intro l
    induction l with
    | nil => simp
    | cons i l ih =>
      intro acc
      have htail := ih (acc + groupDip v i)
      have hhead := hdip i
      simp only [List.map_cons, List.foldl_cons, List.length_cons]
      push_cast
      omega
  simpa [vAccumulation, groupDips] using key (List.range 16) 0

theorem roundedDiv_le {n d top : Nat} (hd : 0 < d) (h : 2 * n < (2 * top + 1) * d) : roundedDiv n d ≤ top := by
  obtain ⟨hlow, -⟩ := roundedDiv_halfUp n d hd
  refine Decidable.byContradiction fun hgt => ?_
  have hmul : (top + 1) * d ≤ roundedDiv n d * d := Nat.mul_le_mul_right d (by omega)
  rw [Nat.mul_assoc] at hlow
  rw [Nat.add_mul] at h hmul
  rw [Nat.mul_assoc] at h
  omega

theorem depthSample_le {a : Int} {trim : Nat} (ha : a ≤ 130976) (htrim : 9000 ≤ trim) : depthSample a trim ≤ 11375 :=
  roundedDiv_le (by omega) (by omega)

theorem fractionSample_le (c : Int) (trim : Nat) : fractionSample c trim ≤ 1000 := by
  unfold fractionSample
  split <;> omega

/-- The figures of an accepted observation are in range. -/
theorem observationFigures_le (o : Observation) (r : TailReadings) (i : List Int) (htrim : TrimInRange o.trim)
    (hpass : rejection o.low (vSamples r) i = none) :
    (observationFigures o (vSamples r) i).1 ≤ 11375 ∧ (observationFigures o (vSamples r) i).2 ≤ 1000 := by
  obtain ⟨-, hclipped, -⟩ := (rejection_none _ _ _).1 hpass
  refine ⟨depthSample_le (vAccumulation_le fun x hx => ?_) htrim.1, fractionSample_le _ _⟩
  have hrange := vSamples_range r x hx
  have hends : ¬(x = -2048 ∨ x = 2047) := fun h => hclipped ⟨x, List.mem_append_left _ hx, h⟩
  omega

/-! ### The running figures (R56, R58) -/

theorem merged_le {top quality x : Nat} {old : Option Nat} (hold : AtMost top old) (hx : x ≤ top) :
    merged quality old x ≤ top := by
  unfold merged
  split
  · exact hx
  · cases old with
    | none => simp only [Option.getD_none]; omega
    | some n =>
      have hn := hold n rfl
      simp only [Option.getD_some]
      omega

theorem atMost_some {top n : Nat} (h : n ≤ top) : AtMost top (some n) := fun _ hm => Option.some.inj hm ▸ h

theorem atMost_none (top : Nat) : AtMost top none := fun _ h => nomatch h

/-- A quality after one more observation is 1 or more and at most 15. -/
theorem countUp_quality_range {q : Nat} (hq : q ≤ 15) :
    1 ≤ countUp Config.qualityTop q ∧ countUp Config.qualityTop q ≤ 15 := by
  simp only [countUp, Config.qualityTop]
  split <;> omega

theorem mergeFigures_inRange {depth fraction : Nat} {e : Entry} (rel : Relation) (hdepth : depth ≤ 11375)
    (hfraction : fraction ≤ 1000) (he : EntryInRange e) :
    EntryInRange { mergeFigures depth fraction e with relation := rel } := by
  obtain ⟨haddress, hage, hinterval, hannounced, huptime, hshared, hthrough, hquality, -, -, hrestarts⟩ := he
  obtain ⟨hone, htop⟩ := countUp_quality_range hquality
  exact ⟨haddress, hage, hinterval, hannounced, huptime, atMost_some (merged_le hshared hdepth),
    atMost_some (merged_le hthrough hfraction), htop, by simpa [mergeFigures] using hone,
    by simpa [mergeFigures] using hone, hrestarts⟩

theorem withRelation_inRange {e : Entry} (rel : Relation) (he : EntryInRange e) :
    EntryInRange { e with relation := rel } := by
  obtain ⟨h1, h2, h3, h4, h5, h6, h7, h8, h9, h10, h11⟩ := he
  exact ⟨h1, h2, h3, h4, h5, h6, h7, h8, h9, h10, h11⟩

/-! ### The ranges through lists of entries -/

theorem replaceEntry_inRange {e : Entry} {es : List Entry} (hes : ∀ x ∈ es, EntryInRange x) (he : EntryInRange e) :
    ∀ x ∈ replaceEntry e es, EntryInRange x := by
  intro x hx
  obtain ⟨y, hy, rfl⟩ := List.mem_map.1 hx
  split
  · exact he
  · exact hes y hy

theorem placeEntry_inRange {e : Entry} {es : List Entry} (hes : ∀ x ∈ es, EntryInRange x) (he : EntryInRange e) :
    ∀ x ∈ placeEntry e es, EntryInRange x := by
  intro x hx
  rcases (mem_place e x es).1 hx with rfl | hx
  · exact he
  · exact hes x hx

/-! ### The parts of the invariant -/

/-- What the invariant says of the sounding unit. -/
structure SoundingInRange (x : Sounding) : Prop where
  ownDepth : AtMost 11375 x.ownDepth
  ownQuality : x.ownQuality ≤ 15
  ownPresent : x.ownDepth.isSome = true ↔ 1 ≤ x.ownQuality
  observed : ∀ o, x.obs = some o → TrimInRange o.trim

theorem FiguresFit.sounding (h : FiguresFit s) : SoundingInRange s.sounding :=
  ⟨h.ownDepth, h.ownQuality, h.ownPresent, h.observed⟩

/-- Entries, sounding unit, settings and IR port in range make the invariant. -/
theorem FiguresFit.of_parts {t : State} (hs : FiguresFit s) (hentries : ∀ e ∈ t.roster.entries, EntryInRange e)
    (hsounding : SoundingInRange t.sounding) (hsettings : t.settings = s.settings) (hir : t.ir = s.ir) : FiguresFit t :=
  ⟨hentries, hsounding.ownDepth, hsounding.ownQuality, hsounding.ownPresent, by rw [hsettings]; exact hs.trim,
    hsounding.observed, by rw [hsettings]; exact hs.address, by rw [hir]; exact hs.written⟩

/-- No observation under way, and the own figures left. -/
theorem tailStored_inRange {r : TailReadings} {o : Observation} {x : Sounding} (k : RejectionKind)
    (hx : SoundingInRange x) : SoundingInRange { tailStored r o x with lastRejection := k } :=
  ⟨hx.ownDepth, hx.ownQuality, hx.ownPresent, fun _ h => nomatch h⟩

theorem decideObservation_figuresFit (r : TailReadings) (hs : FiguresFit s) : FiguresFit (decideObservation r s) := by
  refine decideObservation_keeps r hs (fun o k _ => hs.of_parts hs.entries (tailStored_inRange k hs.sounding) rfl rfl)
    fun o hobs hpass => ?_
  obtain ⟨hdepth, hfraction⟩ := observationFigures_le o r _ (hs.observed o hobs) hpass
  have hstored : SoundingInRange (tailStored r o s.sounding) :=
    tailStored_inRange s.sounding.lastRejection hs.sounding
  unfold mergeObservation
  cases o.peer with
  | some p =>
    cases hfind : s.roster.find p with
    | none =>
      have hdropped := mergePeer_none (s := { s with sounding := tailStored r o s.sounding })
        (observationFigures o (vSamples r) (iSamples o.noted r)).1
        (observationFigures o (vSamples r) (iSamples o.noted r)).2 hfind
      simp only [hdropped]
      exact hs.of_parts hs.entries hstored rfl rfl
    | some e =>
      obtain ⟨rel, hpeer⟩ := mergePeer_some (s := { s with sounding := tailStored r o s.sounding })
        (observationFigures o (vSamples r) (iSamples o.noted r)).1
        (observationFigures o (vSamples r) (iSamples o.noted r)).2 hfind
      simp only [hpeer]
      exact hs.of_parts (replaceEntry_inRange hs.entries
        (mergeFigures_inRange rel hdepth hfraction (hs.entries e (find_mem hfind)))) hstored rfl rfl
  | none =>
    obtain ⟨rel, hown⟩ := mergeOwn_entries o.noted (observationFigures o (vSamples r) (iSamples o.noted r)).1
      (observationFigures o (vSamples r) (iSamples o.noted r)).2 { s with sounding := tailStored r o s.sounding }
    simp only [hown]
    refine hs.of_parts (fun x hx => ?_) ⟨atMost_some (merged_le hs.ownDepth hdepth), ?_, ?_, hstored.observed⟩ rfl rfl
    · obtain ⟨e, he, rfl⟩ := List.mem_map.1 hx
      exact withRelation_inRange _ (hs.entries e he)
    · exact (countUp_quality_range hs.ownQuality).2
    · simpa [ownMerged, tailStored] using (countUp_quality_range hs.ownQuality).1

theorem observe_inRange {o : Observation} (htrim : TrimInRange o.trim) (h : SoundingInRange s.sounding) :
    SoundingInRange (observe o s).sounding := by
  unfold observe
  split
  · exact ⟨h.ownDepth, h.ownQuality, h.ownPresent, fun x hx => Option.some.inj hx ▸ htrim⟩
  · exact h

theorem RunningChange.figuresFit {t : State} (h : RunningChange s t) (hs : FiguresFit s) : FiguresFit t := by
  have hentries := hs.entries
  have hsounding := hs.sounding
  cases h with
  | decide r => exact decideObservation_figuresFit r hs
  | sounding x hown hobs =>
    refine hs.of_parts hentries ?_ rfl rfl
    have hnew : ∀ o, x.obs = some o → TrimInRange o.trim := fun o ho => by
      obtain ⟨old, hold, htrim⟩ := hobs o ho
      exact htrim ▸ hs.observed old hold
    rcases hown with ⟨hdepth, hquality⟩ | ⟨hdepth, hquality⟩
    · exact ⟨hdepth ▸ hs.ownDepth, hquality ▸ hs.ownQuality, hdepth ▸ hquality ▸ hs.ownPresent, hnew⟩
    · exact ⟨hdepth ▸ atMost_none _, by simp [hquality], by simp [hdepth, hquality], hnew⟩
  | observe o htrim =>
    refine hs.of_parts (by simpa using hentries) (observe_inRange ?_ hsounding) (by simp) (by simp)
    rcases htrim with htrim | htrim
    · exact htrim ▸ hs.trim
    · exact htrim
  | rosterFlags x hsame => exact hs.of_parts (hsame ▸ hentries) hsounding rfl rfl
  | eachEntry f hkey hrange =>
    refine hs.of_parts (fun x hx => ?_) hsounding rfl rfl
    obtain ⟨e, he, rfl⟩ := List.mem_map.1 hx
    exact hrange e (hentries e he)
  | someStay p => exact hs.of_parts (fun x hx => hentries x (List.mem_filter.1 hx).1) hsounding rfl rfl
  | oneEntry e old hfind hdepth hrange =>
    exact hs.of_parts (replaceEntry_inRange hentries (hrange (hentries old (find_mem hfind)))) hsounding rfl rfl
  | swap e old hold hnew hown hrange =>
    exact hs.of_parts (placeEntry_inRange (fun x hx => hentries x (List.mem_filter.1 hx).1) (hrange (hentries old hold)))
      hsounding rfl rfl
  | enter e hroom hnew hown hrange =>
    exact hs.of_parts (placeEntry_inRange hentries hrange) hsounding rfl rfl
  | settings x hserial htrim haddress =>
    refine ⟨hentries, hs.ownDepth, hs.ownQuality, hs.ownPresent, htrim ▸ hs.trim, hs.observed, ?_, hs.written⟩
    rcases haddress with h | ⟨w, hw, h⟩
    · exact h ▸ hs.address
    · exact h ▸ hs.written w hw
  | ir x hwrite =>
    refine ⟨hentries, hs.ownDepth, hs.ownQuality, hs.ownPresent, hs.trim, hs.observed, hs.address, fun w hw => ?_⟩
    rcases hwrite w hw with h | h | h
    · exact hs.written w h
    · exact h
    · exact h ▸ hs.address
  | tick => exact hs.of_parts hentries hsounding rfl rfl
  | _ => exact hs.of_parts (by simpa using hentries) (by simpa using hsounding) (by simp) (by simp)

/-! ### Reset and starts -/

theorem enterReset_figuresFit (s : State) : FiguresFit (enterReset s) :=
  ⟨by simp [enterReset], atMost_none _, Nat.zero_le _, by simp [enterReset],
    by simp [enterReset, TrimInRange, Config.nominalTrim], by simp [enterReset], Nat.zero_le _, by simp [enterReset]⟩

theorem readNv_inRange (x : Settings) : TrimInRange (readNv x).trim ∧ (readNv x).address ≤ 240 := by
  simp only [readNv]
  constructor
  · split
    case isTrue h =>
      simp only [FactoryArea.passes, Bool.and_eq_true, decide_eq_true_eq] at h
      exact h.2
    case isFalse => exact ⟨by decide, by decide⟩
  · split
    case isTrue h =>
      simp only [SettingsRecord.passes, Bool.and_eq_true, decide_eq_true_eq] at h
      exact h.2
    case isFalse => decide

theorem obsMap_inRange {x : Sounding} {f : Observation → Observation} (hx : SoundingInRange x)
    (hf : ∀ o, (f o).trim = o.trim) : SoundingInRange { x with obs := x.obs.map f } :=
  ⟨hx.ownDepth, hx.ownQuality, hx.ownPresent, fun o ho => by
    obtain ⟨old, hold, rfl⟩ := Option.map_eq_some_iff.1 ho
    exact (hf old).symm ▸ hx.observed old hold⟩

theorem Change.figuresFit {t : State} (h : Change s t) (hs : FiguresFit s) : FiguresFit t := by
  have hentries := hs.entries
  have hsounding := hs.sounding
  cases h with
  | running hrun h => exact h.figuresFit hs
  | elapse d => exact hs.of_parts hentries hsounding rfl rfl
  | pattern x => exact hs.of_parts hentries hsounding rfl rfl
  | low => exact hs.of_parts hentries (obsMap_inRange hsounding fun _ => rfl) rfl rfl
  | normal => exact hs.of_parts hentries (obsMap_inRange hsounding fun _ => by split <;> rfl) rfl rfl
  | lockout => exact hs.of_parts (by simpa using hentries) (by simpa using hsounding) (by simp) (by simp)
  | reset => exact enterReset_figuresFit s
  | start kept hheld =>
    unfold startFromCritical
    split <;> exact hs.of_parts hentries hsounding rfl rfl
  | restart =>
    have hreset := enterReset_figuresFit s
    exact hreset.of_parts hreset.entries hreset.sounding rfl rfl
  | clockSettled hphase => exact hs.of_parts hentries hsounding rfl rfl
  | settingsLoaded hphase =>
    obtain ⟨htrim, haddress⟩ := readNv_inRange s.settings
    exact ⟨hentries, hs.ownDepth, hs.ownQuality, hs.ownPresent, htrim, hs.observed, haddress, hs.written⟩
  | selfTested heard r => exact hs.of_parts hentries hsounding rfl rfl

/-- Settles O10: what messages, merges and the NV bring in is in range, and every other elementary change leaves the
figures. -/
theorem figuresInRangeKept : Obligations.FiguresInRangeKept :=
  kept_by_step (fun _ _ h => h.of_parts h.entries h.sounding rfl rfl) fun _ _ h => h.figuresFit

end Sys2Proof.Machine
end

section
/-! SUPPORT. The journal (R143, R146, R147, R150, R176) and the isolator (table before R162, R44) as invariants of the elementary
changes. -/

namespace Sys2Proof.Machine

variable {s : State}

/-! ### The journal -/

/-- What the invariant says of a journal in a station of some uptime. -/
structure JournalInOrder (uptime : Nat) (j : Journal) : Prop where
  room : j.entries.length ≤ 64
  ordered : j.entries.Pairwise fun a b => a.heardAt ≤ b.heardAt
  stamped : ∀ e ∈ j.entries, e.heardAt ≤ uptime
  wrappedFull : j.wrapped = true → j.entries.length = 64

theorem journalFits_iff (s : State) : JournalFits s ↔ JournalInOrder s.supply.uptime s.journal ∧
    (s.supply.phase ≠ .running → s.journal.entries = []) ∧ s.supply.uptime ≤ 16777215 :=
  ⟨fun ⟨hroom, hordered, hstamped, hfull, hempty, huptime⟩ => ⟨⟨hroom, hordered, hstamped, hfull⟩, hempty, huptime⟩,
    fun ⟨⟨hroom, hordered, hstamped, hfull⟩, hempty, huptime⟩ => ⟨hroom, hordered, hstamped, hfull, hempty, huptime⟩⟩

namespace JournalInOrder

theorem empty (uptime : Nat) : JournalInOrder uptime {} := ⟨by simp, .nil, by simp, by simp⟩

theorem later {uptime later : Nat} {j : Journal} (h : JournalInOrder uptime j) (hlater : uptime ≤ later) :
    JournalInOrder later j :=
  ⟨h.room, h.ordered, fun e he => Nat.le_trans (h.stamped e he) hlater, h.wrappedFull⟩

/-- An entry stamped with the uptime stands last (R146, R147). -/
theorem write {uptime : Nat} {j : Journal} (h : JournalInOrder uptime j) {e : JournalEntry} (he : e.heardAt = uptime) :
    JournalInOrder uptime (j.write e) := by
  have hlast : ∀ xs : List JournalEntry, xs.Sublist j.entries →
      (xs ++ [e]).Pairwise (fun a b => a.heardAt ≤ b.heardAt) ∧ ∀ x ∈ xs ++ [e], x.heardAt ≤ uptime := by
    intro xs hxs
    have hstamped : ∀ x ∈ xs, x.heardAt ≤ uptime := fun x hx => h.stamped x (hxs.subset hx)
    refine ⟨List.pairwise_append.2 ⟨h.ordered.sublist hxs, List.pairwise_singleton _ _, fun a ha b hb => ?_⟩,
      fun x hx => ?_⟩
    · rw [List.mem_singleton.1 hb, he]
      exact hstamped a ha
    · rcases List.mem_append.1 hx with hx | hx
      · exact hstamped x hx
      · exact Nat.le_of_eq (by rw [List.mem_singleton.1 hx, he])
  have hroom := h.room
  have hfull := h.wrappedFull
  rw [write_eq]
  unfold journalAfter
  split
  case isTrue hless =>
    obtain ⟨hordered, hstamped⟩ := hlast j.entries (List.Sublist.refl _)
    refine ⟨by simp; omega, hordered, hstamped, fun hw => ?_⟩
    have := hfull hw
    omega
  case isFalse hnone =>
    obtain ⟨hordered, hstamped⟩ := hlast (j.entries.drop 1) (List.drop_sublist _ _)
    exact ⟨by simp; omega, hordered, hstamped, fun _ => by simp; omega⟩

end JournalInOrder

theorem RunningChange.journalInOrder {t : State} (h : RunningChange s t)
    (hs : JournalInOrder s.supply.uptime s.journal) (huptime : s.supply.uptime ≤ 16777215) :
    JournalInOrder t.supply.uptime t.journal ∧ t.supply.uptime ≤ 16777215 := by
  cases h with
  | tick =>
    simp only [countSecond, countUp, Config.uptimeTop]
    split
    · exact ⟨hs.later (by omega), by omega⟩
    · exact ⟨hs, huptime⟩
  | journal e hstamp => exact ⟨hs.write hstamp, huptime⟩
  | _ => simpa using And.intro hs huptime

theorem Change.journalFits {t : State} (h : Change s t) (hs : JournalFits s) : JournalFits t := by
  rw [journalFits_iff] at *
  obtain ⟨horder, hempty, huptime⟩ := hs
  cases h with
  | running hrun h =>
    obtain ⟨horder', huptime'⟩ := h.journalInOrder horder huptime
    exact ⟨horder', fun hne => absurd (h.phase.trans hrun) hne, huptime'⟩
  | elapse d => exact ⟨horder, hempty, huptime⟩
  | pattern x => exact ⟨horder, hempty, huptime⟩
  | low => exact ⟨horder, hempty, huptime⟩
  | normal => exact ⟨horder, hempty, huptime⟩
  | lockout => simpa using ⟨horder, hempty, huptime⟩
  | reset => exact ⟨.empty 0, fun _ => rfl, Nat.zero_le _⟩
  | start kept hheld =>
    have hnone := hempty (by simp [hheld])
    have horder' : JournalInOrder 0 s.journal :=
      ⟨horder.room, horder.ordered, by simp [hnone], horder.wrappedFull⟩
    unfold startFromCritical
    split <;> exact ⟨horder', fun _ => hnone, Nat.zero_le _⟩
  | restart => exact ⟨.empty 0, fun _ => rfl, Nat.zero_le _⟩
  | clockSettled hphase => exact ⟨horder, fun _ => hempty (by simp [hphase]), huptime⟩
  | settingsLoaded hphase => exact ⟨horder, fun _ => hempty (by simp [hphase]), huptime⟩
  | selfTested heard r hphase =>
    have hnone := hempty (by simp [hphase])
    exact ⟨⟨horder.room, horder.ordered, by simp [endSelfTest, enterRunning, hnone], horder.wrappedFull⟩,
      fun hne => absurd rfl hne, Nat.zero_le _⟩

/-- Settles O11: an entry is stamped with the uptime as it is written, and the uptime never falls while entries stand. -/
theorem journalOrderKept : Obligations.JournalOrderKept :=
  kept_by_step (fun _ _ ⟨hroom, hordered, hstamped, hfull, hempty, huptime⟩ =>
    ⟨hroom, hordered, hstamped, hfull, hempty, huptime⟩) fun _ _ h => h.journalFits

/-! ### The isolator -/

/-- What the invariant says of the isolator's own parts. -/
structure IsolatorAgrees (x : Isolator) : Prop where
  closed : x.state = .closed → x.failed = 0 ∧ x.timer = none
  waiting : x.state = .openWait → x.failed ≤ 2 ∧ x.timer.isSome = true
  trying : x.state = .trial → x.failed ≤ 2 ∧ x.timer.isSome = true
  latched : x.state = .latched → x.failed = 3 ∧ x.timer = none

theorem isolatorFits_iff (s : State) : IsolatorFits s ↔ IsolatorAgrees s.isolator ∧
    (s.supply.phase ≠ .running → s.isolator.state = .closed) ∧ (s.isolator.state ≠ .closed → s.sounding.obs = none) :=
  ⟨fun ⟨hclosed, hwaiting, htrying, hlatched, hstart, hobs⟩ => ⟨⟨hclosed, hwaiting, htrying, hlatched⟩, hstart, hobs⟩,
    fun ⟨⟨hclosed, hwaiting, htrying, hlatched⟩, hstart, hobs⟩ => ⟨hclosed, hwaiting, htrying, hlatched, hstart, hobs⟩⟩

theorem isolatorAgrees_closed : IsolatorAgrees { state := .closed, failed := 0, timer := none } :=
  ⟨fun _ => ⟨rfl, rfl⟩, nofun, nofun, nofun⟩

theorem isolatorAgrees_openWait {n e : Nat} (hn : n ≤ 2) :
    IsolatorAgrees { state := .openWait, failed := n, timer := some e } :=
  ⟨nofun, fun _ => ⟨hn, rfl⟩, nofun, nofun⟩

theorem isolatorAgrees_trial {n e : Nat} (hn : n ≤ 2) :
    IsolatorAgrees { state := .trial, failed := n, timer := some e } :=
  ⟨nofun, nofun, fun _ => ⟨hn, rfl⟩, nofun⟩

theorem failTrial_agrees (h : IsolatorAgrees s.isolator) (htrial : s.isolator.state = .trial) :
    IsolatorAgrees (failTrial s).isolator := by
  have hfew := (h.trying htrial).1
  unfold failTrial
  dsimp only
  split
  case isTrue hless => exact isolatorAgrees_openWait (Nat.lt_succ_iff.1 hless)
  case isFalse hmore =>
    have hthree : s.isolator.failed + 1 = 3 := by simp only [Config.latchTrials] at hmore; omega
    exact ⟨nofun, nofun, nofun, fun _ => ⟨hthree, rfl⟩⟩

theorem clearIsolator_agrees (h : IsolatorAgrees s.isolator) : IsolatorAgrees (clearIsolator s).isolator := by
  unfold clearIsolator
  cases hstate : s.isolator.state with
  | closed => exact h
  | latched => exact isolatorAgrees_trial (Nat.zero_le _)
  | openWait =>
    exact ⟨fun hc => by simp [hstate] at hc, fun _ => ⟨Nat.zero_le _, (h.waiting hstate).2⟩,
      fun ht => by simp [hstate] at ht, fun hl => by simp [hstate] at hl⟩
  | trial =>
    exact ⟨fun hc => by simp [hstate] at hc, fun hw => by simp [hstate] at hw,
      fun _ => ⟨Nat.zero_le _, (h.trying hstate).2⟩, fun hl => by simp [hstate] at hl⟩

theorem clearIsolator_closed : (clearIsolator s).isolator.state = .closed ↔ s.isolator.state = .closed := by
  unfold clearIsolator
  cases hstate : s.isolator.state <;> simp [beginTrial, hstate]

theorem decideObservation_obs (r : TailReadings) (hs : s.sounding.obs = none) :
    (decideObservation r s).sounding.obs = none := by
  simp [decideObservation, hs]

theorem RunningChange.isolatorAgrees {t : State} (h : RunningChange s t) (hs : IsolatorAgrees s.isolator) :
    IsolatorAgrees t.isolator := by
  cases h with
  | openIsolator e hclosed hobs => exact isolatorAgrees_openWait (by rw [(hs.closed hclosed).1]; exact Nat.zero_le _)
  | failTrial htrial => exact failTrial_agrees hs htrial
  | tryAgain hopen => exact isolatorAgrees_trial (hs.waiting hopen).1
  | closeIsolator htrial => exact isolatorAgrees_closed
  | clearIsolator => exact clearIsolator_agrees hs
  | tick => exact hs
  | _ => simpa using hs

/-- No observation begins, and none is under way, while the isolator is not CLOSED (R44). -/
theorem RunningChange.unobserved {t : State} (h : RunningChange s t)
    (hs : s.isolator.state ≠ .closed → s.sounding.obs = none) : t.isolator.state ≠ .closed → t.sounding.obs = none := by
  cases h with
  | sounding x hown hobs =>
    intro hopen
    have hnone := hs hopen
    cases hx : x.obs with
    | none => rfl
    | some o =>
      obtain ⟨old, hold, -⟩ := hobs o hx
      simp [hnone] at hold
  | observe o htrim =>
    intro hopen
    have hopen' : s.isolator.state ≠ .closed := by simpa using hopen
    simpa [Machine.observe, hopen'] using hs hopen'
  | decide r => exact fun hopen => decideObservation_obs r (hs (by simpa using hopen))
  | openIsolator e hclosed hobs => exact fun _ => hobs
  | failTrial htrial => exact fun _ => by simpa using hs (by simp [htrial])
  | tryAgain hopen => exact fun _ => hs (by simp [hopen])
  | closeIsolator htrial => exact fun hne => absurd rfl hne
  | clearIsolator => exact fun hne => by simpa using hs (mt clearIsolator_closed.2 hne)
  | tick => exact hs
  | _ => simpa using hs

theorem Change.isolatorFits {t : State} (h : Change s t) (hs : IsolatorFits s) : IsolatorFits t := by
  rw [isolatorFits_iff] at *
  obtain ⟨hagrees, hstart, hobs⟩ := hs
  cases h with
  | running hrun h => exact ⟨h.isolatorAgrees hagrees, fun hne => absurd (h.phase.trans hrun) hne, h.unobserved hobs⟩
  | elapse d => exact ⟨hagrees, hstart, hobs⟩
  | pattern x => exact ⟨hagrees, hstart, hobs⟩
  | low => exact ⟨hagrees, hstart, fun hopen => by simpa [noteLow] using hobs hopen⟩
  | normal => exact ⟨hagrees, hstart, fun hopen => by simpa [noteNormal] using hobs hopen⟩
  | lockout => simpa using ⟨hagrees, hstart, hobs⟩
  | reset => exact ⟨isolatorAgrees_closed, fun _ => rfl, fun _ => rfl⟩
  | start kept hheld =>
    have hclosed := hstart (by simp [hheld])
    unfold startFromCritical
    split <;> exact ⟨hagrees, fun _ => hclosed, hobs⟩
  | restart => exact ⟨isolatorAgrees_closed, fun _ => rfl, fun _ => rfl⟩
  | clockSettled hphase => exact ⟨hagrees, fun _ => hstart (by simp [hphase]), hobs⟩
  | settingsLoaded hphase => exact ⟨hagrees, fun _ => hstart (by simp [hphase]), hobs⟩
  | selfTested heard r hphase => exact ⟨hagrees, fun hne => absurd rfl hne, hobs⟩

/-- Settles O14: each change of the isolator leaves a row of its table, and an observation needs it CLOSED. -/
theorem isolatorAgreementKept : Obligations.IsolatorAgreementKept :=
  kept_by_step (fun _ _ ⟨hclosed, hwaiting, htrying, hlatched, hstart, hobs⟩ =>
    ⟨hclosed, hwaiting, htrying, hlatched, hstart, hobs⟩) fun _ _ h => h.isolatorFits

end Sys2Proof.Machine
end

section
/-! SUPPORT. The head supervisor's agreement (R124, R125, R128 to R139) as an invariant of the elementary changes. It falls into
three parts: what moves with the head state (`HeadMoves`), the identity, and the test record. -/

namespace Sys2Proof.Machine

variable {s : State}

/-! ### The parts of the invariant -/

/-- What moves with the head state: supply, alarm line, state timer and cycle count (R124, R125, R129 to R135). -/
structure HeadMoves (on level : Bool) (state : HeadState) (due : Timer) (count : Nat) : Prop where
  supply : on = true ↔ state ≠ .resetting
  line : on = false → level = false
  ready : state = .ready → level = false
  confirming : state = .confirming → level = true
  timer : due.isSome = true ↔ (state = .settling ∨ state = .confirming ∨ state = .resetting ∨ state = .recovering)
  cyclesFew : count ≤ 3
  cyclesStuck : count = 3 ↔ state = .stuck
  cyclesNone : count = 0 ∨ state = .resetting ∨ state = .recovering ∨ state = .stuck

/-- What the invariant says of a test record (R138). -/
structure RecordFits (r : TestRecord) : Prop where
  tested : r.state ≠ .notTested ↔ r.number.isSome = true
  typed : r.state ≠ .notTested ↔ r.type.isSome = true
  number : ∀ n, r.number = some n → 1 ≤ n ∧ n ≤ 255

/-- What the invariant says of the head's own parts while the station runs. -/
structure HeadAgrees (x : Head) : Prop where
  moves : HeadMoves x.supply x.alarm x.state x.timer x.cycles
  empty : x.state = .noHead ↔ x.identity = .noHead
  faulty : x.state = .fault ↔ x.identity = .fault
  type : ∀ y, x.headType = some y ↔ x.identity = .head y
  record : RecordFits x.record
  proved : (x.state = .resetting ∨ x.state = .recovering ∨ x.state = .stuck) → x.record.state ≠ .notTested
  event : ∀ e, x.lastEvent = some e → 1 ≤ e.number ∧ e.number ≤ 255

theorem HeadFits.agrees (h : HeadFits s) (hrun : s.Running) : HeadAgrees s.head :=
  ⟨⟨h.supply hrun, h.line, h.ready, h.confirming, h.timer, h.cyclesFew, h.cyclesStuck, h.cyclesNone⟩, h.empty, h.faulty,
    h.type, ⟨h.tested, h.typed, h.number⟩, h.proved, h.event⟩

theorem HeadFits.of_agrees (h : HeadAgrees s.head) (hrun : s.Running)
    (hannounced : s.sender.test.filled = true ∨ s.sender.test.refill = true → s.head.lastEvent.isSome = true) :
    HeadFits s :=
  ⟨fun _ => h.moves.supply, h.moves.line, h.moves.ready, h.moves.confirming, h.moves.timer, h.empty, h.faulty, h.type,
    h.moves.cyclesFew, h.moves.cyclesStuck, h.moves.cyclesNone, h.record.tested, h.record.typed, h.record.number, h.proved,
    h.event, hannounced, fun hne => absurd hrun hne⟩

/-- Before RUNNING the head and the TEST slot are at their start values. -/
theorem HeadFits.of_start (hhead : s.head = {}) (htest : s.sender.test = {}) (hne : ¬s.Running) : HeadFits s :=
  ⟨fun hrun => absurd hrun hne, by simp [hhead], by simp [hhead], by simp [hhead], by simp [hhead], by simp [hhead],
    by simp [hhead], by simp [hhead], by simp [hhead], by simp [hhead], by simp [hhead], by simp [hhead], by simp [hhead],
    by simp [hhead], by simp [hhead], by simp [hhead], by simp [htest], fun _ => ⟨hhead, htest⟩⟩

/-! ### The head states -/

namespace HeadMoves

theorem rest {state : HeadState} (alarm : Bool) (hstate : state = .noHead ∨ state = .fault) :
    HeadMoves true alarm state none 0 := by
  rcases hstate with rfl | rfl <;> constructor <;> simp

theorem settling (alarm : Bool) (d : Nat) : HeadMoves true alarm .settling (some d) 0 := by constructor <;> simp

theorem toReady : HeadMoves true false .ready none 0 := by constructor <;> simp

theorem toConfirming (d : Nat) : HeadMoves true true .confirming (some d) 0 := by constructor <;> simp

theorem resetting (d : Nat) {n : Nat} (hn : n ≤ 2) : HeadMoves false false .resetting (some d) n :=
  ⟨by simp, by simp, by simp, by simp, by simp, by omega, by simp; omega, by simp⟩

theorem recovering (alarm : Bool) (d : Nat) {n : Nat} (hn : n ≤ 2) : HeadMoves true alarm .recovering (some d) n :=
  ⟨by simp, by simp, by simp, by simp, by simp, by omega, by simp; omega, by simp⟩

theorem stuck (alarm : Bool) : HeadMoves true alarm .stuck none 3 := by constructor <;> simp

variable {supply alarm : Bool} {state : HeadState} {timer : Timer} {cycles : Nat}

/-- In a state that no reset cycle has, the count is 0. -/
theorem cycles_zero (h : HeadMoves supply alarm state timer cycles)
    (hstate : state ≠ .resetting ∧ state ≠ .recovering ∧ state ≠ .stuck) : cycles = 0 := by
  simpa [hstate] using h.cyclesNone

theorem cycles_le_two (h : HeadMoves supply alarm state timer cycles) (hstate : state ≠ .stuck) : cycles ≤ 2 := by
  have hne : cycles ≠ 3 := mt h.cyclesStuck.1 hstate
  have hfew := h.cyclesFew
  omega

/-- The line changes while the head has its supply, in a state that does not turn on it. -/
theorem line_turns (level : Bool) (h : HeadMoves true alarm state timer cycles) (hready : state ≠ .ready)
    (hconfirming : state = .confirming → level = true) : HeadMoves true level state timer cycles :=
  ⟨h.supply, nofun, fun hstate => absurd hstate hready, hconfirming, h.timer, h.cyclesFew, h.cyclesStuck, h.cyclesNone⟩

end HeadMoves

/-! ### The test record (R138) -/

theorem recordFits_blank : RecordFits {} := ⟨by simp, by simp, by simp⟩

theorem recordOnFitting_fits {r : TestRecord} (type : HeadType) (h : RecordFits r) :
    RecordFits (recordOnFitting r type) := by
  unfold recordOnFitting
  split
  · exact h
  · exact recordFits_blank

/-- A confirmed alarm makes a record with a number from 1 to 255, of the type held. -/
theorem recordOnConfirm_fits {r : TestRecord} (type : HeadType) (h : RecordFits r) :
    RecordFits (recordOnConfirm r (some type)) := by
  have hraised : ∀ n, r.number.map (countUp Config.testNumberTop) = some n → 1 ≤ n ∧ n ≤ 255 := by
    intro n hn
    obtain ⟨m, hm, rfl⟩ := Option.map_eq_some_iff.1 hn
    have hrange := h.number m hm
    simp only [countUp, Config.testNumberTop]
    split <;> omega
  have htested := h.tested
  unfold recordOnConfirm
  cases hstate : r.state with
  | notTested => exact ⟨by simp, by simp, by simp⟩
  | passed => exact ⟨by simpa [hstate] using htested, by simp, hraised⟩
  | stuck => exact ⟨by simpa [hstate] using htested, by simp, hraised⟩

/-- A record that is not NOT_TESTED keeps its number and type as it becomes STUCK (R135). -/
theorem recordStuck_fits {r : TestRecord} (h : RecordFits r) (hproved : r.state ≠ .notTested) :
    RecordFits { r with state := .stuck } :=
  ⟨by simpa using h.tested.1 hproved, by simpa using h.typed.1 hproved, h.number⟩

/-! ### The head's operations -/

namespace HeadAgrees

variable {x : Head}

/-- In a head state that only a fitted head has, the type is held. -/
theorem held_type (h : HeadAgrees x) (hhead : x.state ≠ .noHead) (hfault : x.state ≠ .fault) : ∃ y, x.headType = some y := by
  cases hidentity : x.identity with
  | noHead => exact absurd (h.empty.2 hidentity) hhead
  | fault => exact absurd (h.faulty.2 hidentity) hfault
  | head y => exact ⟨y, (h.type y).2 hidentity⟩

/-- A fitted head goes from one state to another and keeps identity, record and event. -/
theorem move {supply alarm : Bool} {alarmFrom : Nat} {state : HeadState} {timer : Timer} {cycles : Nat} (h : HeadAgrees x)
    (hfrom : x.state ≠ .noHead ∧ x.state ≠ .fault) (hto : state ≠ .noHead ∧ state ≠ .fault)
    (hmoves : HeadMoves supply alarm state timer cycles)
    (hproved : (state = .resetting ∨ state = .recovering ∨ state = .stuck) → x.record.state ≠ .notTested) :
    HeadAgrees { x with
      supply := supply, alarm := alarm, alarmFrom := alarmFrom, state := state, timer := timer, cycles := cycles } :=
  { h with
    moves := hmoves
    empty := by simpa [hto.1, hfrom.1] using h.empty
    faulty := by simpa [hto.2, hfrom.2] using h.faulty
    proved := hproved }

/-- A head that is gone, or whose identity is out of every band (R136, R137). -/
theorem loseHead_agrees (value : Identity) (state : HeadState) (h : HeadAgrees s.head)
    (hstate : (state = .noHead ∧ value = .noHead) ∨ (state = .fault ∧ value = .fault)) :
    HeadAgrees (loseHead state (s.withHead { s.head with identity := value })).head := by
  rcases hstate with ⟨rfl, rfl⟩ | ⟨rfl, rfl⟩
  · exact ⟨.rest _ (.inl rfl), by simp [loseHead, Head.supplied], by simp [loseHead, Head.supplied],
      by simp [loseHead, Head.supplied],
      h.record, by simp [loseHead], h.event⟩
  · exact ⟨.rest _ (.inr rfl), by simp [loseHead, Head.supplied], by simp [loseHead, Head.supplied],
      by simp [loseHead, Head.supplied], h.record, by simp [loseHead], h.event⟩

/-- A head newly fitted (R128). -/
theorem fitHead_agrees (type : HeadType) (h : HeadAgrees s.head) :
    HeadAgrees (fitHead type (s.withHead { s.head with identity := .head type })).head :=
  ⟨.settling _ _, by simp [fitHead, Head.supplied], by simp [fitHead, Head.supplied], by simp [fitHead, Head.supplied],
    recordOnFitting_fits type h.record, by simp [fitHead], h.event⟩

theorem readIdentity_agrees (code : Nat) (h : HeadAgrees s.head) : HeadAgrees (readIdentity code s).head := by
  have hchanged : HeadAgrees (changeIdentity (identityValue code) s).head := by
    unfold changeIdentity
    cases identityValue code with
    | noHead => exact loseHead_agrees .noHead .noHead h (.inl ⟨rfl, rfl⟩)
    | fault => exact loseHead_agrees .fault .fault h (.inr ⟨rfl, rfl⟩)
    | head type => exact fitHead_agrees type h
  have hprevious : ∀ x : Head, HeadAgrees x → HeadAgrees { x with previous := some (identityValue code) } :=
    fun x hx => { hx with }
  unfold readIdentity
  dsimp only
  split
  · exact hprevious _ hchanged
  · exact hprevious _ h

theorem turnAlarm_agrees (level : Bool) (h : HeadAgrees s.head) (hsupply : s.head.supply = true)
    (hready : s.head.state ≠ .ready) (hconfirming : s.head.state = .confirming → level = true) :
    HeadAgrees (turnAlarm level s).head := by
  have hmoves := h.moves
  rw [hsupply] at hmoves
  exact { h with moves := (hsupply ▸ hmoves.line_turns level hready hconfirming :) }

theorem assertAlarm_agrees (h : HeadAgrees s.head) : HeadAgrees (assertAlarm s).head := by
  unfold assertAlarm
  split
  case isFalse => exact h
  case isTrue hturns =>
    obtain ⟨hsupply, -, -⟩ := (alarmTurnsTo_iff s true).1 hturns
    split
    case isFalse hready => exact turnAlarm_agrees true h hsupply hready fun _ => rfl
    case isTrue hready =>
      have hcycles := h.moves.cycles_zero (by simp [hready])
      have hmoves : HeadMoves s.head.supply true .confirming (some (s.now + Config.confirmTime)) s.head.cycles := by
        rw [hsupply, hcycles]
        exact .toConfirming _
      exact h.move (by simp [hready]) (by simp) hmoves (by simp)

theorem releaseAlarm_agrees (h : HeadAgrees s.head) : HeadAgrees (releaseAlarm s).head := by
  unfold releaseAlarm
  dsimp only
  split
  case isFalse => exact h
  case isTrue hturns =>
    obtain ⟨hsupply, halarm, -⟩ := (alarmTurnsTo_iff s false).1 hturns
    have hready : s.head.state ≠ .ready := fun hstate => by simp [h.moves.ready hstate] at halarm
    split
    case isFalse hconfirming => exact turnAlarm_agrees false h hsupply hready fun hstate => absurd hstate hconfirming
    case isTrue hconfirming =>
      have hstate : s.head.state = .confirming := hconfirming
      have hcycles := h.moves.cycles_zero (by simp [hstate])
      have hmoves : HeadMoves s.head.supply false .ready none s.head.cycles := by
        rw [hsupply, hcycles]
        exact .toReady
      exact h.move (by simp [hstate]) (by simp) hmoves (by simp)

theorem enterReady_agrees (h : HeadAgrees s.head) (hstate : s.head.state = .settling) :
    HeadAgrees (enterReady s).head := by
  have hsupply := h.moves.supply.2 (by simp [hstate])
  have hcycles := h.moves.cycles_zero (by simp [hstate])
  unfold enterReady
  split
  case isTrue halarm =>
    have hmoves : HeadMoves s.head.supply s.head.alarm .confirming (some (s.now + Config.confirmTime)) s.head.cycles := by
      rw [hsupply, halarm, hcycles]
      exact .toConfirming _
    exact h.move (by simp [hstate]) (by simp) hmoves (by simp)
  case isFalse halarm =>
    have hmoves : HeadMoves s.head.supply s.head.alarm .ready none s.head.cycles := by
      rw [hsupply, Bool.eq_false_iff.2 halarm, hcycles]
      exact .toReady
    exact h.move (by simp [hstate]) (by simp) hmoves (by simp)

theorem endResetting_agrees (h : HeadAgrees s.head) (hstate : s.head.state = .resetting) :
    HeadAgrees (endResetting s).head :=
  h.move (by simp [hstate]) (by simp) (.recovering _ _ (h.moves.cycles_le_two (by simp [hstate])))
    fun _ => h.proved (.inl hstate)

theorem recovered_agrees (h : HeadAgrees s.head) (hstate : s.head.state = .recovering) (halarm : s.head.alarm = false) :
    HeadAgrees { s.head with cycles := 0, state := .ready, timer := none } := by
  have hmoves : HeadMoves s.head.supply s.head.alarm .ready none 0 := by
    rw [h.moves.supply.2 (by simp [hstate]), halarm]
    exact .toReady
  exact h.move (by simp [hstate]) (by simp) hmoves (by simp)

theorem beginReset_agrees {n : Nat} (hn : n ≤ 2) (h : HeadAgrees s.head)
    (hstate : s.head.state = .confirming ∨ s.head.state = .recovering ∨ s.head.state = .stuck)
    (hrecord : s.head.state = .confirming → s.head.record.state ≠ .notTested) : HeadAgrees (beginReset n s).head := by
  refine h.move ?_ (by simp) (.resetting _ hn) fun _ => ?_
  · rcases hstate with hstate | hstate | hstate <;> simp [hstate]
  · rcases hstate with hstate | hstate
    · exact hrecord hstate
    · exact h.proved (.inr hstate)

theorem stuck_agrees (h : HeadAgrees s.head) (hstate : s.head.state = .recovering) :
    HeadAgrees { s.head with
      cycles := 3, state := .stuck, timer := none, record := { s.head.record with state := .stuck } } :=
  have hmoves : HeadMoves s.head.supply s.head.alarm .stuck none 3 := by
    rw [h.moves.supply.2 (by simp [hstate])]
    exact .stuck _
  { h with
    moves := hmoves
    empty := by simpa [hstate] using h.empty
    faulty := by simpa [hstate] using h.faulty
    record := recordStuck_fits h.record (h.proved (.inr (.inl hstate)))
    proved := fun _ => TestState.noConfusion }

theorem confirmRecord_agrees (h : HeadAgrees s.head) (hstate : s.head.state = .confirming) :
    HeadAgrees { s.head with record := recordOnConfirm s.head.record s.head.headType } := by
  obtain ⟨type, htype⟩ := h.held_type (by simp [hstate]) (by simp [hstate])
  exact { h with
    record := htype ▸ recordOnConfirm_fits type h.record
    proved := fun _ => TestState.noConfusion }

end HeadAgrees

/-! ### The elementary changes -/

theorem RunningChange.headAgrees {t : State} (h : RunningChange s t) (hs : HeadAgrees s.head) : HeadAgrees t.head := by
  cases h with
  | identity code => exact hs.readIdentity_agrees code
  | assertAlarm => exact hs.assertAlarm_agrees
  | releaseAlarm => exact hs.releaseAlarm_agrees
  | settled hstate => exact hs.enterReady_agrees hstate
  | supplyBack hstate => exact hs.endResetting_agrees hstate
  | recovered hstate halarm => exact hs.recovered_agrees hstate halarm
  | latch x => exact { hs with }
  | confirmRecord hstate => exact hs.confirmRecord_agrees hstate
  | stuckRecord hstate => exact hs.stuck_agrees hstate
  | event e hnumber => exact { hs with event := fun x hx => Option.some.inj hx ▸ hs.record.number _ hnumber }
  | resetHead n hn hstate hrecord => exact hs.beginReset_agrees hn hstate hrecord
  | tick => exact hs
  | _ => simpa using hs

/-! ### The TEST slot and the last test event (R139) -/

theorem changeIdentity_lastEvent (value : Identity) : (changeIdentity value s).head.lastEvent = s.head.lastEvent := by
  cases value <;> rfl

theorem readIdentity_lastEvent (code : Nat) : (readIdentity code s).head.lastEvent = s.head.lastEvent := by
  unfold readIdentity
  dsimp only
  split
  · exact changeIdentity_lastEvent _
  · rfl

theorem assertAlarm_lastEvent : (assertAlarm s).head.lastEvent = s.head.lastEvent := by
  unfold assertAlarm
  (repeat' split) <;> rfl

theorem releaseAlarm_lastEvent : (releaseAlarm s).head.lastEvent = s.head.lastEvent := by
  unfold releaseAlarm
  dsimp only
  (repeat' split) <;> rfl

theorem enterReady_lastEvent : (enterReady s).head.lastEvent = s.head.lastEvent := by
  unfold enterReady
  split <;> rfl

/-- No elementary change takes a test event back. -/
theorem RunningChange.lastEvent {t : State} (h : RunningChange s t) (hs : s.head.lastEvent.isSome = true) :
    t.head.lastEvent.isSome = true := by
  cases h with
  | identity code => rwa [readIdentity_lastEvent]
  | assertAlarm => rwa [assertAlarm_lastEvent]
  | releaseAlarm => rwa [releaseAlarm_lastEvent]
  | settled => rwa [enterReady_lastEvent]
  | supplyBack => exact hs
  | event => rfl
  | resetHead => exact hs
  | tick => exact hs
  | _ => simpa using hs

/-- A slot that is filled, or is to be filled again. -/
def Slot.Used (x : Slot) : Prop := x.filled = true ∨ x.refill = true

theorem takeQuiet_test (d : Nat) : (takeQuiet d s).sender.test = s.sender.test := by
  rcases Nat.eq_zero_or_pos d with rfl | hd
  · simp only [takeQuiet, if_true]
    split
    · simp [endQuiet_eq]
    · rfl
  · rw [takeQuiet_positive s d hd]
    dsimp only
    split <;> rfl

/-- A message that ends fills no slot but by its refill mark. -/
theorem senderAfterEnd_test {k : OutKind} {next : SenderState} {tailAt : Timer}
    (h : (senderAfterEnd s k next tailAt).test.Used) : s.sender.test.Used := by
  simp only [senderAfterEnd, slotAfterEnd, LineSender.slot] at h
  split at h
  · by_cases hrefill : s.sender.test.refill = true
    · exact .inr hrefill
    · simp [Slot.Used, hrefill] at h
  · exact h

/-- The TEST slot is filled and marked by its fill request alone. -/
theorem RunningChange.testUsed {t : State} (h : RunningChange s t) (ht : t.sender.test.Used) :
    s.sender.test.Used ∨ s.head.lastEvent.isSome = true := by
  cases h with
  | fillTest hevent => exact .inr hevent
  | retry o n hout hn =>
    left
    rw [messageRetried_eq _ _ _ rfl] at ht
    simp only [senderAfterRetry, leaveLine] at ht
    split at ht
    · exact .inl (by simpa [Slot.Used] using ht)
    · exact ht
  | discard o hout =>
    rw [messageEnded_eq _ _ rfl] at ht
    exact .inl (senderAfterEnd_test (s := leaveLine .waiting s) ht)
  | sent o tailAt hout =>
    rw [messageEnded_eq _ _ rfl] at ht
    exact .inl (senderAfterEnd_test (s := leaveLine .waiting s) ht)
  | routine => exact .inl (by simpa [routineRequest_eq] using ht)
  | exempt => exact .inl (by simpa [exemptRequest_eq] using ht)
  | quiet d => exact .inl (by simpa [takeQuiet_test] using ht)
  | quietEnds => exact .inl (by simpa [endQuiet_eq] using ht)
  | query r => exact .inl (by simpa [fillSlot_eq, State.setSlot, LineSender.setSlot] using ht)
  | tick => exact .inl ht
  | _ => exact .inl (by simpa using ht)

/-! ### The invariant -/

theorem Change.headFits {t : State} (h : Change s t) (hs : HeadFits s) : HeadFits t := by
  cases h with
  | running hrun h =>
    refine .of_agrees (h.headAgrees (hs.agrees hrun)) (h.phase.trans hrun) fun hused => h.lastEvent ?_
    rcases h.testUsed hused with hbefore | hevent
    · exact hs.announced hbefore
    · exact hevent
  | elapse d => exact { hs with }
  | pattern x => exact { hs with }
  | low => exact { hs with }
  | normal => exact { hs with }
  | lockout =>
    by_cases hrun : s.Running
    · refine .of_agrees (by simpa using hs.agrees hrun) (by simpa [State.Running] using hrun) ?_
      simp [lockSink_eq]
    · exact .of_start (by simpa using (hs.atStart hrun).1) (by simp [lockSink_eq]) (by simpa using hrun)
  | reset => exact .of_start rfl rfl Phase.noConfusion
  | start kept hheld =>
    obtain ⟨hhead, htest⟩ := hs.atStart (by simp [hheld])
    unfold startFromCritical
    split <;> exact .of_start hhead htest Phase.noConfusion
  | restart => exact .of_start rfl rfl Phase.noConfusion
  | clockSettled hphase =>
    obtain ⟨hhead, htest⟩ := hs.atStart (by simp [hphase])
    exact .of_start hhead htest Phase.noConfusion
  | settingsLoaded hphase =>
    obtain ⟨hhead, htest⟩ := hs.atStart (by simp [hphase])
    exact .of_start hhead htest Phase.noConfusion
  | selfTested heard r hphase =>
    obtain ⟨hhead, htest⟩ := hs.atStart (by simp [hphase])
    refine .of_agrees ?_ rfl ?_
    · simp only [endSelfTest, enterRunning, hhead]
      exact ⟨.rest _ (.inl rfl), by simp [Head.supplied], by simp [Head.supplied], by simp [Head.supplied], recordFits_blank,
        by simp [Head.supplied], by simp [Head.supplied]⟩
    · simp [endSelfTest, enterRunning, htest]

/-- Settles O13: every elementary change leaves the head in a state whose supply, line, timer, count and record agree. -/
theorem headAgreementKept : Obligations.HeadAgreementKept :=
  kept_by_step (fun _ _ h => { h with }) fun _ _ h => h.headFits

end Sys2Proof.Machine
end

section
/-! SUPPORT. The sender's agreement (R7, R12, R13, R120, R151, table after R11) as an invariant of the elementary changes. It falls
into four parts: the line, each slot, the reply record, and what quiet lets wait. -/

namespace Sys2Proof.Machine

variable {s : State}

/-! ### The parts of the invariant -/

/-- What the invariant says of the sender's state, message on the line and tail, beside the lockout and the cutoff. -/
structure LineAgrees (lockout cutoffOpen : Bool) (state : SenderState) (outgoing : Option Outgoing) (tailAt : Timer) :
    Prop where
  locked : state = .locked ↔ lockout = true
  cutoff : cutoffOpen = lockout
  onLine : outgoing.isSome = true ↔ (state = .contending ∨ state = .payload)
  tail : tailAt.isSome = true ↔ (state = .quietCells ∨ state = .tail)

/-- What the invariant says of a slot whose message is on the line (`busy`) or not. -/
structure SlotAgrees (lockout busy : Bool) (x : Slot) : Prop where
  fits : SlotFits x
  silent : lockout = true → x.filled = false
  itsSlot : busy = true → x.filled = true
  refill : x.refill = true → busy = true

/-- The PRESENCE that waits under quiet is exempt (R120). -/
def QuietHeld (quietUntil : Timer) (waits exempt : Bool) : Prop := quietUntil.isSome = true → waits = true → exempt = true

/-- What the invariant says of a station that runs. -/
structure SenderAgrees (s : State) : Prop where
  line : LineAgrees s.retained.lockout s.port.cutoffOpen s.sender.state s.sender.outgoing s.sender.tailAt
  slots : ∀ k, SlotAgrees s.retained.lockout (s.onLine k) (s.sender.slot k)
  record : s.reply.record.isSome = true ↔ s.sender.reply.filled = true
  noSecondReply : s.sender.reply.refill = false
  held : QuietHeld s.sched.quietUntil s.presenceWaits s.sched.exempt

theorem SenderFits.agrees (h : SenderFits s) : SenderAgrees s where
  line := ⟨h.locked, h.cutoff, h.onLine, h.tail⟩
  slots k := ⟨h.slots k, fun hl => h.silent hl k, fun hbusy => by
    obtain ⟨o, hout, rfl⟩ := (onLine_eq s k).1 hbusy
    exact h.itsSlot o hout, h.refill k⟩
  record := h.record
  noSecondReply := h.noSecondReply
  held := h.held

theorem SenderFits.of_agrees (h : SenderAgrees s) (hstart : s.supply.phase ≠ .running → s.sender.outgoing = none ∧
    s.sender.tailAt = none ∧ ∀ k, (s.sender.slot k).filled = false) : SenderFits s where
  slots k := (h.slots k).fits
  locked := h.line.locked
  cutoff := h.line.cutoff
  silent hl k := (h.slots k).silent hl
  onLine := h.line.onLine
  itsSlot o hout := (h.slots o.kind).itsSlot ((onLine_eq s _).2 ⟨o, hout, rfl⟩)
  refill k := (h.slots k).refill
  tail := h.line.tail
  record := h.record
  noSecondReply := h.noSecondReply
  held := h.held
  atStart := hstart

/-! ### A slot -/

namespace SlotAgrees

variable {lockout busy : Bool} {x : Slot}

theorem empty : SlotAgrees lockout false {} := ⟨⟨by simp, by simp⟩, by simp, by simp, by simp⟩

theorem filled : SlotAgrees false false { filled := true } := ⟨⟨by simp, by simp⟩, by simp, by simp, by simp⟩

/-- The message of a slot leaves the line and waits in its slot again. -/
theorem retried (h : SlotAgrees lockout true x) {n : Nat} (hn : n = x.aborts ∨ n < 8) :
    SlotAgrees lockout false { x with aborts := n, refill := false } := by
  have hfilled := h.itsSlot rfl
  have haborts := h.fits.1
  refine ⟨⟨?_, by simp [hfilled]⟩, h.silent, by simp, by simp⟩
  rcases hn with rfl | hn
  · exact haborts
  · exact hn

/-- A fill request leaves a slot in agreement. -/
theorem fill {k : OutKind} (h : SlotAgrees s.retained.lockout (s.onLine k) (s.sender.slot k)) :
    SlotAgrees s.retained.lockout (s.onLine k) (slotAfterFill s k) := by
  unfold slotAfterFill
  split
  case isTrue => exact h
  case isFalse hlockout =>
    split
    case isTrue => exact ⟨⟨by simp, by simp⟩, by simp [hlockout], by simp, by simp⟩
    case isFalse hempty =>
      split
      case isTrue hbusy => exact ⟨⟨h.fits.1, fun hx => absurd hx hempty⟩, h.silent, h.itsSlot, fun _ => hbusy⟩
      case isFalse => exact h

end SlotAgrees

/-- A REPLY or TEST slot after its message has ended. -/
theorem slotAfterEnd_agrees (k : OutKind) : SlotAgrees s.retained.lockout false (slotAfterEnd s k) := by
  unfold slotAfterEnd
  split
  case isTrue h => exact h.2 ▸ .filled
  case isFalse => exact .empty

theorem presenceAfterEnd_agrees : SlotAgrees s.retained.lockout false (presenceAfterEnd s) := by
  unfold presenceAfterEnd
  split
  case isTrue h => exact h.2.1 ▸ .filled
  case isFalse => exact .empty

theorem presenceAfterRetry_agrees (h : SlotAgrees s.retained.lockout true s.sender.presence) {n : Nat}
    (hn : n = s.sender.presence.aborts ∨ n < 8) : SlotAgrees s.retained.lockout false (presenceAfterRetry s n) := by
  unfold presenceAfterRetry
  split
  · exact .empty
  · exact h.retried hn

/-! ### The sender after a message has ended -/

theorem senderAfterRetry_other {k j : OutKind} {n : Nat} (h : k ≠ j) :
    (senderAfterRetry s k n).slot j = s.sender.slot j := by
  cases j <;> simp [senderAfterRetry, LineSender.slot, h]

theorem senderAfterRetry_own {k : OutKind} {n : Nat} (h : SlotAgrees s.retained.lockout true (s.sender.slot k))
    (hn : n = (s.sender.slot k).aborts ∨ n < 8) :
    SlotAgrees s.retained.lockout false ((senderAfterRetry s k n).slot k) := by
  cases k with
  | test => exact h.retried hn
  | reply => exact h.retried hn
  | presence => exact presenceAfterRetry_agrees h hn

theorem senderAfterEnd_other {k j : OutKind} {next : SenderState} {tailAt : Timer} (h : k ≠ j) :
    (senderAfterEnd s k next tailAt).slot j = s.sender.slot j := by
  cases j <;> simp [senderAfterEnd, LineSender.slot, h]

theorem senderAfterEnd_own (k : OutKind) (next : SenderState) (tailAt : Timer) :
    SlotAgrees s.retained.lockout false ((senderAfterEnd s k next tailAt).slot k) := by
  cases k with
  | test => exact slotAfterEnd_agrees .test
  | reply => exact slotAfterEnd_agrees .reply
  | presence => exact presenceAfterEnd_agrees

/-- A PRESENCE lost or aborted under quiet is withdrawn, or exempt (R117, R120). -/
theorem presenceAfterRetry_held (n : Nat) :
    QuietHeld (schedAfterRetry s).quietUntil (presenceAfterRetry s n).filled (schedAfterRetry s).exempt := by
  intro hquiet hfilled
  have hne : s.sched.quietUntil ≠ none := Option.isSome_iff_ne_none.1 hquiet
  refine Decidable.byContradiction fun hnot => ?_
  obtain ⟨hexempt, hrefill⟩ : s.sched.exempt = false ∧ s.sched.exemptRefill = false := by
    simpa [schedAfterRetry] using hnot
  by_cases hwaiting : s.sender.presence.filled = true <;>
    simp [presenceAfterRetry, hne, hexempt, hrefill, hwaiting] at hfilled

/-- A PRESENCE filled again under quiet is exempt (R117, R120). -/
theorem presenceAfterEnd_held (now : Nat) :
    QuietHeld (schedAfterEnd s now).quietUntil (presenceAfterEnd s).filled (schedAfterEnd s now).exempt := by
  intro hquiet hfilled
  have hne : s.sched.quietUntil ≠ none := Option.isSome_iff_ne_none.1 hquiet
  simp only [presenceAfterEnd, hne, false_or] at hfilled
  simp only [schedAfterEnd]
  refine Decidable.byContradiction fun hnot => ?_
  simp [hnot] at hfilled

namespace SenderAgrees

/-! ### What is on the line -/

theorem onLine_none (k : OutKind) (h : s.sender.outgoing = none) : s.onLine k = false := by simp [State.onLine, h]

theorem onLine_some {o : Outgoing} (k : OutKind) (h : s.sender.outgoing = some o) : s.onLine k = decide (o.kind = k) := by
  simp [State.onLine, h]

/-- A sender with a message on the line is not locked, and has no tail. -/
theorem of_outgoing {o : Outgoing} (h : SenderAgrees s) (hout : s.sender.outgoing = some o) :
    s.retained.lockout = false ∧ s.sender.tailAt = none := by
  have hstate := h.line.onLine.1 (by simp [hout])
  have hlocked := h.line.locked
  have htail := h.line.tail
  constructor
  · rw [← Bool.not_eq_true, ← hlocked]
    rcases hstate with hstate | hstate <;> simp [hstate]
  · rw [← Option.not_isSome_iff_eq_none, htail]
    rcases hstate with hstate | hstate <;> simp [hstate]

/-- A slot whose message is not the one on the line stays as it is when the line is left. -/
theorem other_slot {o : Outgoing} (h : SenderAgrees s) (hout : s.sender.outgoing = some o) {k : OutKind}
    (hk : o.kind ≠ k) : SlotAgrees s.retained.lockout false (s.sender.slot k) := by
  have hslot := h.slots k
  rwa [onLine_some k hout, decide_eq_false hk] at hslot

theorem its_slot {o : Outgoing} (h : SenderAgrees s) (hout : s.sender.outgoing = some o) :
    SlotAgrees s.retained.lockout true (s.sender.slot o.kind) := by
  have hslot := h.slots o.kind
  rwa [onLine_some _ hout, decide_eq_true rfl] at hslot

/-- Under quiet a PRESENCE on the line says nothing; another in its slot waits. -/
theorem held_of_other {o : Outgoing} (h : SenderAgrees s) (hout : s.sender.outgoing = some o) (hk : o.kind ≠ .presence) :
    QuietHeld s.sched.quietUntil s.sender.presence.filled s.sched.exempt := by
  intro hquiet hfilled
  refine h.held hquiet ?_
  simp [State.presenceWaits, onLine_some _ hout, hk, hfilled]

/-! ### The operations on the line -/

/-- The sender, the lockout, the cutoff, the reply record and the two fields of quiet stay. -/
theorem of_frame {t : State} (h : SenderAgrees s) (hsender : t.sender = s.sender)
    (hlockout : t.retained.lockout = s.retained.lockout) (hcutoff : t.port.cutoffOpen = s.port.cutoffOpen)
    (hreply : t.reply = s.reply) (hquiet : t.sched.quietUntil = s.sched.quietUntil)
    (hexempt : t.sched.exempt = s.sched.exempt) : SenderAgrees t := by
  obtain ⟨hline, hslots, hrecord, hsecond, hheld⟩ := h
  unfold State.presenceWaits at hheld
  unfold State.onLine at hslots hheld
  rw [← hsender, ← hlockout, ← hcutoff] at hline
  rw [← hsender, ← hlockout] at hslots
  rw [← hsender, ← hreply] at hrecord
  rw [← hsender] at hsecond
  rw [← hsender, ← hquiet, ← hexempt] at hheld
  exact ⟨hline, hslots, hrecord, hsecond, hheld⟩

theorem start_agrees (h : SenderAgrees s) (o : Outgoing) (hwaiting : s.sender.state = .waiting)
    (hfilled : (s.sender.slot o.kind).filled = true) :
    SenderAgrees { s with sender := { s.sender with state := .contending, outgoing := some o } } := by
  have hnone : s.sender.outgoing = none := by
    rw [← Option.not_isSome_iff_eq_none, h.line.onLine, hwaiting]
    simp
  have htail : s.sender.tailAt = none := by
    rw [← Option.not_isSome_iff_eq_none, h.line.tail, hwaiting]
    simp
  have hlockout : s.retained.lockout = false := by
    rw [← Bool.not_eq_true, ← h.line.locked, hwaiting]
    simp
  have hidle : ∀ k, (s.sender.slot k).refill = false := fun k => by
    rw [← Bool.not_eq_true]
    intro hrefill
    simpa [onLine_none k hnone] using (h.slots k).refill hrefill
  refine ⟨⟨by simp [hlockout], h.line.cutoff, by simp, by simp [htail]⟩, fun k => ?_, h.record, h.noSecondReply, ?_⟩
  · refine ⟨(h.slots k).fits, (h.slots k).silent, fun hbusy => ?_, fun hrefill => ?_⟩
    · obtain ⟨x, hx, rfl⟩ := (onLine_eq _ k).1 hbusy
      cases hx
      exact hfilled
    · exact absurd (show (s.sender.slot k).refill = true from hrefill) (by simp [hidle k])
  · intro hquiet hwaits
    refine h.held hquiet ?_
    simp only [State.presenceWaits, Bool.and_eq_true] at hwaits ⊢
    exact ⟨hwaits.1, by simp [onLine_none _ hnone]⟩

theorem retry_agrees (h : SenderAgrees s) {o : Outgoing} {n : Nat} (hout : s.sender.outgoing = some o)
    (hn : n = (s.sender.slot o.kind).aborts ∨ n < 8) : SenderAgrees (messageRetried o.kind n (leaveLine .waiting s)) := by
  obtain ⟨hlockout, htail⟩ := h.of_outgoing hout
  rw [messageRetried_eq _ _ _ rfl]
  refine ⟨⟨by simp [leaveLine, hlockout], h.line.cutoff, by simp [senderAfterRetry, leaveLine],
    by simp [senderAfterRetry, leaveLine, htail]⟩, fun k => ?_, ?_, ?_, ?_⟩
  · show SlotAgrees s.retained.lockout false ((senderAfterRetry (leaveLine .waiting s) o.kind n).slot k)
    by_cases hk : o.kind = k
    · exact hk ▸ senderAfterRetry_own (s := leaveLine .waiting s) (h.its_slot hout) hn
    · rw [senderAfterRetry_other hk]
      exact h.other_slot hout hk
  · simp only [senderAfterRetry, leaveLine]
    split <;> exact h.record
  · simp only [senderAfterRetry, leaveLine]
    split
    · rfl
    · exact h.noSecondReply
  · simp only [State.presenceWaits, State.onLine, senderAfterRetry, leaveLine, Option.any_none, Bool.not_false,
      Bool.and_true]
    split
    · exact presenceAfterRetry_held (s := leaveLine .waiting s) n
    · exact h.held_of_other hout ‹_›

/-- A message that has ended leaves the line to a sender that waits, or in its quiet cells with a tail to come. -/
theorem ended_agrees (h : SenderAgrees s) {o : Outgoing} (next : SenderState) (tailAt : Timer)
    (hout : s.sender.outgoing = some o)
    (hnext : (next = .waiting ∧ tailAt = none) ∨ (next = .quietCells ∧ tailAt.isSome = true)) :
    SenderAgrees (messageEnded o.kind { s with sender := { s.sender with
      state := next, outgoing := none, tailAt := tailAt } }) := by
  obtain ⟨hlockout, -⟩ := h.of_outgoing hout
  rw [messageEnded_eq _ _ rfl]
  refine ⟨?_, fun k => ?_, ?_, ?_, ?_⟩
  · rcases hnext with ⟨rfl, rfl⟩ | ⟨rfl, htail⟩
    · exact ⟨by simp [senderAfterEnd, hlockout], h.line.cutoff, by simp [senderAfterEnd], by simp [senderAfterEnd]⟩
    · exact ⟨by simp [senderAfterEnd, hlockout], h.line.cutoff, by simp [senderAfterEnd], by simp [senderAfterEnd, htail]⟩
  · show SlotAgrees s.retained.lockout false
      ((senderAfterEnd { s with sender := { s.sender with state := next, outgoing := none, tailAt := tailAt } }
        o.kind next tailAt).slot k)
    by_cases hk : o.kind = k
    · exact hk ▸ senderAfterEnd_own (s := { s with sender := { s.sender with
        state := next, outgoing := none, tailAt := tailAt } }) o.kind next tailAt
    · rw [senderAfterEnd_other hk]
      exact h.other_slot hout hk
  · simp only [senderAfterEnd]
    split
    · simp [slotAfterEnd, LineSender.slot, h.noSecondReply]
    · exact h.record
  · simp only [senderAfterEnd]
    split
    · simp [slotAfterEnd, LineSender.slot, h.noSecondReply]
    · exact h.noSecondReply
  · simp only [State.presenceWaits, State.onLine, senderAfterEnd, Option.any_none, Bool.not_false, Bool.and_true]
    split
    · exact presenceAfterEnd_held (s := { s with sender := { s.sender with
        state := next, outgoing := none, tailAt := tailAt } }) s.now
    · exact h.held_of_other hout ‹_›

/-! ### Requests and quiet -/

/-- The PRESENCE slot and the scheduler change, the line and the other slots stay. -/
theorem of_presence (h : SenderAgrees s) {x : Slot} {sched : Scheduler}
    (hx : SlotAgrees s.retained.lockout (s.onLine .presence) x)
    (hheld : QuietHeld sched.quietUntil (x.filled && !s.onLine .presence) sched.exempt) :
    SenderAgrees { s with sender := { s.sender with presence := x }, sched := sched } where
  line := h.line
  slots k := by
    cases k with
    | test => exact h.slots .test
    | reply => exact h.slots .reply
    | presence => exact hx
  record := h.record
  noSecondReply := h.noSecondReply
  held := hheld

theorem routineRequest_agrees (h : SenderAgrees s) : SenderAgrees (routineRequest s) := by
  rw [routineRequest_eq]
  by_cases hquiet : s.sched.quietUntil = none
  · refine h.of_presence ?_ ?_
    · simpa [presenceAfterRoutine, hquiet] using (h.slots .presence).fill
    · simp [schedAfterRoutine, hquiet, QuietHeld]
  · refine h.of_presence ?_ ?_
    · have hpresence := h.slots .presence
      simpa [presenceAfterRoutine, hquiet, LineSender.slot] using hpresence
    · have hheld := h.held
      simp only [presenceAfterRoutine, schedAfterRoutine, hquiet, if_false, false_or]
      split <;> exact hheld

theorem exemptRequest_agrees (h : SenderAgrees s) : SenderAgrees (exemptRequest s) := by
  rw [exemptRequest_eq]
  refine h.of_presence (h.slots .presence).fill ?_
  have hheld := h.held
  unfold presenceAfterExempt schedAfterExempt
  by_cases hlockout : s.retained.lockout = true
  · simpa [slotAfterFill, hlockout, LineSender.slot, State.presenceWaits] using hheld
  · by_cases hline : s.onLine .presence = true
    · simp [hlockout, hline, QuietHeld]
    · simp [hlockout, hline, QuietHeld]

theorem endQuiet_agrees (h : SenderAgrees s) : SenderAgrees (endQuiet s) := by
  rw [endQuiet_eq]
  refine h.of_presence ?_ ?_
  · unfold presenceAfterQuiet
    split
    · exact (h.slots .presence).fill
    · exact h.slots .presence
  · unfold schedAfterQuiet
    split <;> simp [QuietHeld]

theorem takeQuiet_agrees (d : Nat) (h : SenderAgrees s) : SenderAgrees (takeQuiet d s) := by
  rcases Nat.eq_zero_or_pos d with rfl | hd
  · simp only [takeQuiet, if_true]
    split
    · exact h.endQuiet_agrees
    · exact h
  · rw [takeQuiet_positive s d hd]
    by_cases hwithdrawn : s.presenceWaits = true ∧ s.sched.exempt = false
    · obtain ⟨-, hidle⟩ : s.sender.presence.filled = true ∧ s.onLine .presence = false := by
        simpa [State.presenceWaits] using hwithdrawn.1
      rw [if_pos hwithdrawn]
      exact h.of_presence (by rw [hidle]; exact .empty) (by simp [QuietHeld])
    · rw [if_neg hwithdrawn]
      have hpresence := h.slots .presence
      refine h.of_presence (x := s.sender.presence) hpresence fun _ hwaits => ?_
      have hwaits' : s.presenceWaits = true := hwaits
      simpa [hwaits'] using hwithdrawn

/-! ### Queries and the TEST slot -/

theorem query_agrees (h : SenderAgrees s) (r : PendingReply) (hfree : s.sender.reply.filled = false)
    (hlockout : s.retained.lockout = false) :
    SenderAgrees (fillSlot .reply { s with reply := { record := some r } }) := by
  have hslot := h.slots .reply
  have hidle : s.onLine .reply = false := by
    rw [← Bool.not_eq_true]
    intro hbusy
    simpa [LineSender.slot, hfree] using hslot.itsSlot hbusy
  rw [fillSlot_eq]
  have hfilled : slotAfterFill { s with reply := { record := some r } } .reply = { filled := true } := by
    simp [slotAfterFill, LineSender.slot, hfree, hlockout]
  rw [hfilled]
  refine ⟨h.line, fun k => ?_, by simp [State.setSlot, LineSender.setSlot], rfl, h.held⟩
  cases k with
  | test => exact h.slots .test
  | presence => exact h.slots .presence
  | reply =>
    show SlotAgrees s.retained.lockout (s.onLine .reply) _
    rw [hidle, hlockout]
    exact .filled

theorem fillTest_agrees (h : SenderAgrees s) : SenderAgrees (fillSlot .test s) := by
  rw [fillSlot_eq]
  refine ⟨h.line, fun k => ?_, h.record, h.noSecondReply, h.held⟩
  cases k with
  | test => exact (h.slots .test).fill
  | presence => exact h.slots .presence
  | reply => exact h.slots .reply

/-! ### The lockout and the starts -/

/-- A sender with nothing on the line, no tail and empty slots, WAITING or LOCKED as the lockout is. -/
theorem of_idle (hsender : s.sender = { state := if s.retained.lockout = true then .locked else .waiting })
    (hcutoff : s.port.cutoffOpen = s.retained.lockout) (hreply : s.reply.record = none) : SenderAgrees s := by
  refine ⟨⟨?_, hcutoff, ?_, ?_⟩, fun k => ?_, ?_, ?_, ?_⟩
  · rw [hsender]; dsimp only; split <;> simp [*]
  · rw [hsender]; dsimp only; split <;> simp
  · rw [hsender]; dsimp only; split <;> simp
  · rw [onLine_none k (by rw [hsender]), hsender]
    cases k <;> exact .empty
  · simp [hsender, hreply]
  · simp [hsender]
  · simp [QuietHeld, State.presenceWaits, hsender]

end SenderAgrees

/-! ### The elementary changes -/

theorem RunningChange.senderAgrees {t : State} (h : RunningChange s t) (hs : SenderAgrees s) : SenderAgrees t := by
  cases h with
  | start o hwaiting hfilled => exact hs.start_agrees o hwaiting hfilled
  | win hcontending =>
    have hout := hs.line.onLine
    have htail := hs.line.tail
    refine ⟨⟨?_, hs.line.cutoff, ?_, ?_⟩, hs.slots, hs.record, hs.noSecondReply, hs.held⟩
    · simpa [hcontending] using hs.line.locked
    · simpa [hcontending] using hout
    · simpa [hcontending] using htail
  | retry o n hout hn => exact hs.retry_agrees hout hn
  | discard o hout =>
    have htail := (hs.of_outgoing hout).2
    have hended := hs.ended_agrees .waiting none hout (.inl ⟨rfl, rfl⟩)
    rwa [← htail] at hended
  | sent o tailAt hout =>
    refine hs.ended_agrees _ tailAt hout ?_
    cases tailAt <;> simp
  | ownTail e hquiet =>
    refine ⟨⟨?_, hs.line.cutoff, ?_, by simp⟩, hs.slots, hs.record, hs.noSecondReply, hs.held⟩
    · simpa [hquiet] using hs.line.locked
    · simpa [hquiet] using hs.line.onLine
  | lineBack htail =>
    refine ⟨⟨?_, hs.line.cutoff, ?_, by simp⟩, hs.slots, hs.record, hs.noSecondReply, hs.held⟩
    · simpa [htail] using hs.line.locked
    · simpa [htail] using hs.line.onLine
  | schedule x hquiet hexempt => exact hs.of_frame rfl rfl rfl rfl hquiet hexempt
  | routine => exact hs.routineRequest_agrees
  | exempt => exact hs.exemptRequest_agrees
  | quiet d => exact hs.takeQuiet_agrees d
  | quietEnds => exact hs.endQuiet_agrees
  | query r hfree hlockout => exact hs.query_agrees r hfree hlockout
  | fillTest hevent => exact hs.fillTest_agrees
  | port x hcutoff => exact hs.of_frame rfl rfl hcutoff rfl rfl rfl
  | tick => exact hs.of_frame rfl rfl rfl rfl rfl rfl
  | _ => exact hs.of_frame (by simp) (by simp) (by simp) (by simp) (by simp) (by simp)

/-- Before RUNNING nothing is on the line and every slot is empty. -/
theorem SenderFits.empty (h : SenderFits s) (hne : s.supply.phase ≠ .running) : s.reply.record = none ∧
    s.sender.outgoing = none ∧ s.sender.tailAt = none ∧ ∀ k, s.sender.slot k = {} := by
  obtain ⟨hout, htail, hfilled⟩ := h.atStart hne
  have hrecord := h.record
  refine ⟨?_, hout, htail, fun k => ?_⟩
  · have hfree : s.sender.reply.filled = false := hfilled .reply
    rw [← Option.not_isSome_iff_eq_none, hrecord, hfree]
    simp
  · have hfits := (h.slots k).2 (hfilled k)
    have hk := hfilled k
    cases hslot : s.sender.slot k
    simp_all

/-- A station that leaves or has left the line with empty slots fits, whatever its phase. -/
theorem SenderFits.of_idle (hsender : s.sender = { state := if s.retained.lockout = true then .locked else .waiting })
    (hcutoff : s.port.cutoffOpen = s.retained.lockout) (hreply : s.reply.record = none) : SenderFits s :=
  .of_agrees (.of_idle hsender hcutoff hreply) fun _ => by
    refine ⟨by simp [hsender], by simp [hsender], fun k => ?_⟩
    rw [hsender]
    cases k <;> rfl

theorem lockSink_senderFits (hs : SenderFits s) : SenderFits (lockSink s) := by
  rw [lockSink_eq]
  refine .of_idle (by simp) rfl ?_
  dsimp only
  split
  case isTrue => rfl
  case isFalse hfree =>
    have hrecord := hs.record
    simpa [hfree] using hrecord

theorem beginStart_senderFits (cause : RestartCause) (hcutoff : s.port.cutoffOpen = s.retained.lockout)
    (hreply : s.reply.record = none) (hout : s.sender.outgoing = none) (htail : s.sender.tailAt = none)
    (hslots : ∀ k, s.sender.slot k = {}) : SenderFits (beginStart cause s) := by
  refine .of_idle ?_ hcutoff hreply
  have htest : s.sender.test = {} := hslots .test
  have hpresence : s.sender.presence = {} := hslots .presence
  have hreplySlot : s.sender.reply = {} := hslots .reply
  simp [beginStart, htest, hpresence, hreplySlot, hout, htail]

theorem enterReset_senderFits (hs : SenderFits s) : SenderFits (enterReset s) := .of_idle rfl hs.cutoff rfl

theorem Change.senderFits {t : State} (h : Change s t) (hs : SenderFits s) : SenderFits t := by
  cases h with
  | running hrun h => exact .of_agrees (h.senderAgrees hs.agrees) fun hne => absurd (h.phase.trans hrun) hne
  | elapse d => exact .of_agrees (hs.agrees.of_frame rfl rfl rfl rfl rfl rfl) hs.atStart
  | pattern x => exact .of_agrees (hs.agrees.of_frame rfl rfl rfl rfl rfl rfl) hs.atStart
  | low => exact .of_agrees (hs.agrees.of_frame rfl rfl rfl rfl rfl rfl) hs.atStart
  | normal => exact .of_agrees (hs.agrees.of_frame rfl rfl rfl rfl rfl rfl) hs.atStart
  | lockout => exact lockSink_senderFits hs
  | reset => exact enterReset_senderFits hs
  | start kept hheld =>
    obtain ⟨hreply, hout, htail, hslots⟩ := hs.empty (by simp [hheld])
    unfold startFromCritical
    split
    · exact beginStart_senderFits _ hs.cutoff hreply hout htail hslots
    · exact beginStart_senderFits _ rfl hreply hout htail hslots
  | restart => exact beginStart_senderFits _ hs.cutoff rfl rfl rfl fun k => by cases k <;> rfl
  | clockSettled hphase =>
    exact .of_agrees (hs.agrees.of_frame rfl rfl rfl rfl rfl rfl) fun _ => hs.atStart (by simp [hphase])
  | settingsLoaded hphase =>
    exact .of_agrees (hs.agrees.of_frame rfl rfl rfl rfl rfl rfl) fun _ => hs.atStart (by simp [hphase])
  | selfTested heard r => exact .of_agrees (hs.agrees.of_frame rfl rfl rfl rfl rfl rfl) fun hne => absurd rfl hne

/-- Settles O12: every elementary change leaves line, slots, reply record and quiet in agreement. -/
theorem senderAgreementKept : Obligations.SenderAgreementKept :=
  kept_by_step (fun _ _ h => .of_agrees (h.agrees.of_frame rfl rfl rfl rfl rfl rfl) h.atStart) fun _ _ h => h.senderFits

end Sys2Proof.Machine
end

section
/-! SUPPORT. The step itself: what it takes from the queue, and that it always answers (log 2, 26, 28, 29, 32). -/

namespace Sys2Proof.Machine

variable {s : State}

theorem RunningChange.pending {t : State} (h : RunningChange s t) : t.pending = s.pending := by
  cases h with
  | tick => rfl
  | _ => simp

theorem RunningChange.now {t : State} (h : RunningChange s t) : t.now = s.now := by
  cases h with
  | tick => rfl
  | _ => simp

/-- No elementary change touches the queue or turns the time base back. -/
theorem Change.time {t : State} (h : Change s t) : t.pending = s.pending ∧ s.now ≤ t.now := by
  cases h with
  | running hrun h => exact ⟨h.pending, Nat.le_of_eq h.now.symm⟩
  | elapse d => exact ⟨rfl, Nat.le_max_left _ _⟩
  | lockout => simp
  | start kept =>
    unfold startFromCritical
    split <;> exact ⟨rfl, Nat.le_refl _⟩
  | _ => exact ⟨rfl, Nat.le_refl _⟩

theorem Changes.time {t : State} (h : Changes s t) : t.pending = s.pending ∧ s.now ≤ t.now :=
  h.keep (P := fun x => x.pending = s.pending ∧ s.now ≤ x.now)
    (fun _ _ hchange ⟨hpending, hnow⟩ =>
      ⟨hchange.time.1.trans hpending, Nat.le_trans hnow hchange.time.2⟩) ⟨rfl, Nat.le_refl _⟩

/-- Settles O2: a command always ends, after elementary changes that leave the queue. -/
theorem everyStepAnswersNext : Obligations.EveryStepAnswersNext := by
  intro s
  unfold step
  cases hpending : s.pending with
  | nil => exact ⟨s, rfl, hpending, Nat.le_refl _, fun _ => rfl⟩
  | cons c rest =>
    obtain ⟨x, hx, -⟩ := exec_done c { s with pending := rest }
    obtain ⟨hqueue, hnow⟩ := (exec_changes (s := { s with pending := rest }) hx).time
    exact ⟨x.refreshIndicator, hx, hqueue, hnow, nofun⟩

/-- Settles O1. -/
theorem stepRunsFrontCommand : Obligations.StepRunsFrontCommand := by
  intro c rest s hpending
  simp [step, hpending]

/-- Settles O4: the values are those of the definition of State.reset. -/
theorem resetValues : Obligations.ResetValues := by
  have hslots : ∀ k, ({} : LineSender).slot k = { filled := false, aborts := 0, refill := false } := fun k => by
    cases k <;> rfl
  simp [Obligations.ResetValues, hslots, State.reset, Config.clockSettleTime]

/-- Settles O5: with an empty roster, an empty journal, nothing on the line and no head, each invariant holds. -/
theorem resetHasEveryProperty : Obligations.ResetHasEveryProperty := by
  refine ⟨fun _ => ?_, (rosterFits_iff _).2 ⟨.nil, fun _ => rfl⟩, .inl rfl,
    fun _ he => absurd he List.not_mem_nil, ?_,
    (journalFits_iff _).2 ⟨.empty 0, fun _ => rfl, Nat.zero_le _⟩, .of_idle rfl rfl rfl, .of_start rfl rfl Phase.noConfusion,
    (isolatorFits_iff _).2 ⟨isolatorAgrees_closed, fun _ => rfl, fun _ => rfl⟩⟩
  · exact ⟨rfl, rfl, rfl, rfl, rfl, rfl, rfl, rfl, rfl, rfl, rfl, rfl, rfl, rfl, rfl⟩
  · exact ⟨fun _ he => absurd he List.not_mem_nil, atMost_none _, Nat.zero_le _, by simp [State.reset],
      ⟨by decide, by decide⟩, (fun _ ho => nomatch ho), Nat.zero_le _, (fun _ hw => nomatch hw)⟩

end Sys2Proof.Machine
end

section
/-! SUPPORT. The commands of the line (01): what an idle, a START edge, a loss, a mismatch, a win and a sent message do. -/

namespace Sys2Proof.Machine

variable {s : State}

/-! ### What a command answers -/

/-- A command whose effect leaves the LED block alone. -/
theorem answers_done {c : Instr} {x : State} (hx : exec c s = done x) (hled : x.indicator = s.indicator) :
    ∃ u, exec c s = .next u ∧ LedFollows s u ∧ u = { x with indicator := u.indicator } := by
  rw [hx]
  exact done_answers s x hled

/-- A command that acts while the station runs, whose effect leaves the LED block alone. -/
theorem answers_running {f : State → State} {now x : State} (hx : f now = x) (hrun : now.supply.phase = .running)
    (hled : x.indicator = s.indicator) :
    ∃ u, done (whenRunning f now) = .next u ∧ LedFollows s u ∧ u = { x with indicator := u.indicator } := by
  rw [whenRunning_running now f hrun, hx]
  exact done_answers s x hled

/-! ### LINE_IDLE and START_LEADING_EDGE (R5, R14) -/

/-- An idle that can be judged, without the hearing of its frame: the frame ends, the observation is cut, and a waiting
sender starts. -/
theorem lineBecomesIdle_judged (r : TailReadings) (hfree : LineFree s) (hidle : s.rx.idleNotBefore ≤ s.now) :
    lineBecomesIdle { frame := none, tail := r } s = contend (truncate r (judgeIdle s)) :=
  if_pos ((mayJudgeIdle_iff s none).2 ⟨hidle, hfree, rfl⟩)

/-- Where no idle can be judged, the command changes nothing. -/
theorem lineBecomesIdle_not (heard : IdleHearing) (h : ¬LineFree s ∨ s.now < s.rx.idleNotBefore) :
    lineBecomesIdle heard s = s := by
  refine if_neg fun hjudge => ?_
  obtain ⟨hidle, hfree, -⟩ := (mayJudgeIdle_iff s heard.frame).1 hjudge
  rcases h with h | h
  · exact h hfree
  · omega

/-- Settles O19: nothing is captured where no slot is filled, so the idle ends the frame and cuts the observation. -/
theorem idleEndsFrameAndTail : Obligations.IdleEndsFrameAndTail := by
  intro s t r hrun m
  constructor
  · intro hfree hidle hempty
    have hjudged := lineBecomesIdle_judged (s := s.advance t) r hfree hidle
    rw [contend_empty _ (by simpa using hempty), truncate_eq] at hjudged
    exact answers_running (s := s) hjudged hrun rfl
  · intro heard h
    exact answers_running (s := s) (lineBecomesIdle_not (s := s.advance t) _ h) hrun rfl

theorem judgeV_false {dip : Int} (h : dip < 8) : judgeV dip = false := by
  rw [← Bool.not_eq_true, judgeV_iff]
  omega

theorem hearStart_idle {dip : Int} (hdip : 8 ≤ dip) (hidle : s.rx.idle = true) :
    hearStart dip s = { s with rx := receiverAtStart s s.now } := by
  simp [hearStart, (judgeV_iff dip).2 hdip, hidle, beginFrame_eq]

theorem hearStart_busy {dip : Int} (hdip : 8 ≤ dip) (hidle : s.rx.idle = false) :
    hearStart dip s = { s with rx := receiverAfterSink s.rx s.now } := by
  simp [hearStart, (judgeV_iff dip).2 hdip, hidle, noteSink_eq]

theorem hearStart_small {dip : Int} (hdip : dip < 8) : hearStart dip s = s := by simp [hearStart, judgeV_false hdip]

/-- Settles O20: the three clauses are the three branches of the START edge. -/
theorem edgeOnIdleLineBeginsFrame : Obligations.EdgeOnIdleLineBeginsFrame := by
  intro s t dip hrun m
  refine ⟨fun hidle hdip => ?_, fun hdip => ?_, fun hidle hdip => ?_⟩
  · exact answers_running (s := s) (hearStart_idle (s := s.advance t) hdip hidle) hrun rfl
  · exact answers_running (s := s) (hearStart_small (s := s.advance t) hdip) hrun rfl
  · exact answers_running (s := s) (hearStart_busy (s := s.advance t) hdip hidle) hrun rfl

/-! ### What a waiting sender starts (R8) -/

/-- At an idle with no observation under way a waiting sender starts the slot that is picked. -/
theorem lineBecomesIdle_starts {k : OutKind} {fields : List Byte} (r : TailReadings) (hwaiting : s.sender.state = .waiting)
    (hout : s.sender.outgoing = none) (hidle : s.rx.idleNotBefore ≤ s.now) (hobs : s.sounding.obs = none)
    (hpick : pickSlot s.sender = some k)
    (hfields : captureFields (beforeCapture k (judgeIdle s)) k = some fields) :
    lineBecomesIdle { frame := none, tail := r } s =
      startedMessage (beforeCapture k s) s.now k fields (decide (k = .presence) && s.tailWouldFollow) := by
  have hfree : LineFree s := ⟨hout, by simp [hwaiting]⟩
  have huncut : truncate r (judgeIdle s) = judgeIdle s := by simp [truncate, judgeIdle, hobs]
  have hcontend : contend (judgeIdle s) = beginMessage k (judgeIdle s) := by
    simp [contend, judgeIdle, hwaiting, hpick]
  have hidleTail : (s.rx.idleInTail || decide (s.sender.state = .tail)) = s.rx.idleInTail := by simp [hwaiting]
  rw [lineBecomesIdle_judged r hfree hidle, huncut, hcontend, beginMessage_eq _ k fields hfields]
  cases k <;> simp only [startedMessage, receiverAtStart, judgeIdle, beforeCapture, hidleTail] <;> rfl

/-- A tail follows a PRESENCE in band NORMAL with the lockout clear (R39). -/
theorem tailWouldFollow_eq (s : State) :
    s.tailWouldFollow = decide (s.supply.band = .normal ∧ s.retained.lockout = false) := by
  unfold State.tailWouldFollow
  by_cases hband : s.supply.band = .normal <;> by_cases hlockout : s.retained.lockout = true <;> simp [hband, hlockout]

/-- Settles O21: the three clauses are the three slots in their order. -/
theorem idleStartsHighestSlot : Obligations.IdleStartsHighestSlot := by
  intro s t r hrun hwaiting hout hidle hobs
  have hstarts := fun k fields => lineBecomesIdle_starts (s := s.advance t) (k := k) (fields := fields) r
    hwaiting hout hidle hobs
  refine ⟨fun e htest hevent => ?_, fun q htest hreply hrecord => ?_, fun htest hreply hpresence => ?_⟩
  · have hfields : captureFields (s.advance t) .test = some (testFields s e) := by simp [captureFields, hevent]; rfl
    have hx := hstarts .test _ (by simp [pickSlot, htest]) hfields
    exact answers_running (s := s) hx hrun rfl
  · have hfields : captureFields (s.advance t) .reply = some (replyFields s q) := by simp [captureFields, hrecord]; rfl
    have hx := hstarts .reply _ (by simp [pickSlot, htest, hreply]) hfields
    exact answers_running (s := s) hx hrun rfl
  · have hx := hstarts .presence _ (by simp [pickSlot, htest, hreply, hpresence]) rfl
    rw [tailWouldFollow_eq] at hx
    exact answers_running (s := s) hx hrun rfl

end Sys2Proof.Machine
end

section
/-! SUPPORT. The end of an own message (R8, R10, R11), its tail (R40) and the lockout (R12). -/

namespace Sys2Proof.Machine

variable {s : State}

/-! ### A message leaves the line (R7, R8, R10, R11) -/

/-- A message lost, or aborted below the limit. -/
theorem messageRetried_left (k : OutKind) (n : Nat) (s : State) : messageRetried k n (leaveLine .waiting s) =
    { s with
      sender := senderAfterRetry s k n
      sched := if k = .presence then schedAfterRetry s else s.sched } :=
  messageRetried_eq _ k n rfl

/-- A message sent or discarded. -/
theorem messageEnded_left (k : OutKind) (next : SenderState) (tailAt : Timer) (s : State) :
    messageEnded k { s with sender := { s.sender with state := next, outgoing := none, tailAt := tailAt } } =
    { s with
      sender := senderAfterEnd s k next tailAt
      sched := if k = .presence then schedAfterEnd s s.now else s.sched
      reply := if k = .reply then { record := none } else s.reply } :=
  messageEnded_eq _ k rfl

theorem cellMoment_eq (o : Outgoing) (cell : Nat) : o.cellMoment cell = o.startedAt + 500 * cell + 125 := by
  simp [Outgoing.cellMoment, Config.halfCell]

theorem halfMoment_eq (o : Outgoing) (half : Nat) : o.halfMoment half = o.startedAt + 250 * half + 125 := by
  simp [Outgoing.halfMoment, Config.halfCell]

theorem frameTime_cells (n : Nat) : frameTime n = 500 * (44 + 8 * (n + 2)) := by
  simp only [frameTime, frameCellCount, Config.halfCell]
  omega

/-- Settles O22: a loss retries the message with the abort count as it stands. -/
theorem loserKeepsItsSlot : Obligations.LoserKeepsItsSlot := by
  intro s o cell dip hrun hcontending hout hcell hdip
  have hx : loseContention cell dip s = messageRetried o.kind (s.sender.slot o.kind).aborts
      (leaveLine .waiting (s.advance (o.startedAt + 500 * cell + 125))) := by
    rw [← cellMoment_eq]
    simp [loseContention, hout, hcontending, State.sentContention, hcell, (judgeV_iff dip).2 hdip]
  rw [messageRetried_left] at hx
  exact answers_running (s := s) hx hrun rfl

/-! ### SEND_MISMATCH (R10) -/

/-- The START cell of a frame is dominant (R6). -/
theorem frameHalves_start (f : Frame) : (frameHalves f)[1]? = some true := rfl

/-- The three ways in which a cell or half-cell is judged otherwise than sent. -/
theorem mismatchAt_of {o : Outgoing} {half : Nat} {dips : CellDips} {sent : Bool}
    (hsent : (frameHalves (s.frameOf o))[half]? = some sent)
    (h : (half = 1 ∧ s.sender.state = .contending ∧ dips.first < 8 ∧ dips.second < 8) ∨
      (2 ≤ half ∧ half < 88 ∧ half % 2 = 0 ∧ s.sender.state = .contending ∧ sent = true ∧ dips.first < 8) ∨
      (88 ≤ half ∧ s.sender.state = .payload ∧
        (sent = true ↔ (if half % 2 = 0 then dips.first else dips.second) < 8))) :
    s.mismatchAt o half dips = true := by
  unfold State.mismatchAt
  rw [hsent]
  rcases h with ⟨rfl, hstate, hfirst, hsecond⟩ | ⟨hlow, hhigh, heven, hstate, rfl, hfirst⟩ | ⟨hhigh, hstate, hdip⟩
  · rw [frameHalves_start] at hsent
    cases hsent
    simp [Config.contentionHalves, hstate, judgedRecessive, judgeV_false hfirst, judgeV_false hsecond]
  · have hnot : ¬half < 2 := by omega
    simp [Config.contentionHalves, hhigh, hstate, judgedRecessive, hnot, heven, judgeV_false hfirst]
  · have hnot : ¬half < 88 := by omega
    simp only [Config.contentionHalves, hnot, if_false, hstate, decide_true, Bool.true_and, judgedHalf, bne_iff_ne]
    intro hsame
    have hjudged := judgeV_iff (if half % 2 = 0 then dips.first else dips.second)
    rw [← hsame, hdip] at hjudged
    omega

/-- The last sink before an abort (R5, R10). -/
theorem sinkBeforeAbort_eq (s : State) (o : Outgoing) (half : Nat) (dips : CellDips) :
    s.sinkBeforeAbort o half (judgedHalf half dips) =
      if 8 ≤ (if half % 2 = 0 then dips.first else dips.second) then o.startedAt + 250 * half + 125
      else o.startedAt + 250 * sinkHalves ((frameHalves (s.frameOf o)).take half) := by
  simp only [State.sinkBeforeAbort, judgedHalf, judgeV_iff, halfMoment_eq, Config.halfCell]

/-- A mismatch aborts the message at the middle of its half-cell. -/
theorem meetMismatch_met {o : Outgoing} {half : Nat} {dips : CellDips} (hout : s.sender.outgoing = some o)
    (hmet : s.mismatchAt o half dips = true) : meetMismatch half dips s =
    abortMessage o.kind (noteSink (s.sinkBeforeAbort o half (judgedHalf half dips))
      (s.advance (o.startedAt + 250 * half + 125))) := by
  simp [meetMismatch, hout, hmet, halfMoment_eq]

/-- Below the limit the message waits in its slot with the count raised (R10, R11). -/
theorem abortMessage_retried (k : OutKind) (hcount : (s.sender.slot k).aborts + 1 < 8) : abortMessage k s =
    { s with
      rx := { s.rx with underWay := none }
      sender := senderAfterRetry s k ((s.sender.slot k).aborts + 1)
      sched := if k = .presence then schedAfterRetry s else s.sched } := by
  have hx : abortMessage k s = messageRetried k ((s.sender.slot k).aborts + 1) (leaveLine .waiting (dropOwnFrame s)) :=
    if_pos hcount
  rw [hx, messageRetried_left]
  rfl

/-- At the limit the message is discarded (R11). -/
theorem abortMessage_discarded (k : OutKind) (hcount : 8 ≤ (s.sender.slot k).aborts + 1) : abortMessage k s =
    { s with
      rx := { s.rx with underWay := none }
      sender := senderAfterEnd s k .waiting s.sender.tailAt
      sched := if k = .presence then schedAfterEnd s s.now else s.sched
      reply := if k = .reply then { record := none } else s.reply } := by
  have hx : abortMessage k s = messageEnded k (leaveLine .waiting (dropOwnFrame s)) :=
    if_neg (by simp only [Config.abortLimit]; omega)
  have hended := messageEnded_left k .waiting s.sender.tailAt (dropOwnFrame s)
  exact hx.trans hended

/-- Settles O23: each of the three judgements is a mismatch, and the count decides what becomes of the message. -/
theorem mismatchAbortsMessage : Obligations.MismatchAbortsMessage := by
  intro s o half dips sent hrun hout hsent dip hjudged m lastSink count
  have hmet := meetMismatch_met hout (mismatchAt_of hsent hjudged)
  rw [sinkBeforeAbort_eq] at hmet
  constructor
  · intro hcount
    exact answers_running (s := s) (hmet.trans (abortMessage_retried o.kind hcount)) hrun rfl
  · intro hcount
    exact answers_running (s := s) (hmet.trans (abortMessage_discarded o.kind hcount)) hrun rfl

/-! ### MESSAGE_SENT (R11) -/

/-- Settles O25: the message ends at the end of its CHECK cell, and its receiver drops it. -/
theorem sentMessageEmptiesSlot : Obligations.SentMessageEmptiesSlot := by
  intro s o hrun hpayload hout m lastSink
  have hx : sendComplete s = messageEnded o.kind
      (let t := dropOwnFrame (noteSink lastSink (s.advance (o.startedAt + 500 * (44 + 8 * (o.fields.length + 2)))))
      { t with sender := { t.sender with
        state := if o.soundFollows = true then .quietCells else .waiting
        outgoing := none
        tailAt := if o.soundFollows = true then some (m + 1000) else none } }) := by
    simp only [sendComplete, hout, hpayload, if_true, frameTime_cells]
    rfl
  exact answers_running (s := s) (hx.trans (messageEnded_left _ _ _ _)) hrun rfl

/-! ### The sink driver, the win and the own tail (R1, R6, R40, R44) -/

/-- The sink is commanded in the sink half-cells of the message on the line (R6). -/
theorem sinkCommanded_message {o : Outgoing} (hout : s.sender.outgoing = some o) :
    s.sinkCommanded = true ↔ (frameHalves (s.frameOf o))[(s.now - o.startedAt) / 250]? = some true := by
  simp only [State.sinkCommanded, hout, Config.halfCell, List.getD_eq_getElem?_getD]
  cases (frameHalves (s.frameOf o))[(s.now - o.startedAt) / 250]? <;> simp

/-- In the own tail the sink is commanded in places 1 and 2 of each group of four periods (R40). -/
theorem sinkCommanded_tail {d : Nat} (hout : s.sender.outgoing = none) (htail : s.sender.state = .tail)
    (hat : s.sender.tailAt = some (d + 128000)) (hd : d ≤ s.now) :
    s.sinkCommanded = true ↔
      s.now < d + 128000 ∧ ((s.now - d) / 2000 % 4 = 1 ∨ (s.now - d) / 2000 % 4 = 2) := by
  have hsince : s.now + 128000 - (d + 128000) = s.now - d := by omega
  simp [State.sinkCommanded, hout, htail, hat, tailPeriodOn, Config.tailTime, Config.tailPeriod, hsince]

theorem sinkCommanded_off (hout : s.sender.outgoing = none) (htail : s.sender.state ≠ .tail) :
    s.sinkCommanded = false := by
  unfold State.sinkCommanded
  rw [hout]
  cases hstate : s.sender.state with
  | tail => exact absurd hstate htail
  | _ => rfl

theorem beginOwnTail_eq (s : State) : beginOwnTail s =
    { s with
      rx := { s.rx with idleInTail := false }
      sender := { s.sender with state := .tail, tailAt := some (s.now + 128000) }
      sounding := if s.isolator.state = .closed ∧ s.sounding.obs = none then
          { s.sounding with obs := some (newObservation s none s.settings.trim s.now) }
        else s.sounding } := by
  rw [beginOwnTail, observe_eq]
  rfl

/-- Settles O24. -/
theorem winnerGoesOnToPayloadAndTail : Obligations.WinnerGoesOnToPayloadAndTail := by
  intro s
  refine ⟨fun o => sinkCommanded_message, fun d => sinkCommanded_tail, sinkCommanded_off, rfl, fun hrun => ⟨?_, ?_⟩⟩
  · intro o hcontending hout
    have hx : winContention s = { s.advance (o.startedAt + 22000) with
        sender := { s.sender with state := .payload } } := by
      have htime : Config.contentionHalves * Config.halfCell = 22000 := rfl
      simp [winContention, hout, hcontending, htime]
    exact answers_running (s := s) hx hrun rfl
  · intro d hquiet hat
    have hx : (fun s => if s.sender.state = .quietCells then onExpiry s.sender.tailAt beginOwnTail s else s) s =
        beginOwnTail (s.advance d) := by
      simp only [hquiet, if_true, hat, onExpiry_some]
    exact answers_running (s := s) (hx.trans (beginOwnTail_eq _)) hrun rfl

/-! ### SINK_LOCKOUT (R12) -/

/-- Settles O26. -/
theorem lockoutSilencesSender : Obligations.LockoutSilencesSender := by
  intro s drawn m
  constructor
  · intro hawake hclosed hlast hguard
    have hx : exec (.sinkLockout drawn) s = done (lockSink (s.advance drawn.upTo)) :=
      congrArg done (if_pos ⟨hawake, hclosed, (drewTooLong_iff (s.advance drawn.upTo) drawn).2 ⟨hlast, hguard⟩⟩)
    rw [lockSink_eq] at hx
    exact answers_done hx rfl
  · intro h
    have hx : exec (.sinkLockout drawn) s = done (s.advance drawn.upTo) := by
      refine congrArg done (if_neg fun ⟨hawake, hclosed, hlong⟩ => ?_)
      obtain ⟨hlast, hguard⟩ := (drewTooLong_iff (s.advance drawn.upTo) drawn).1 hlong
      have hguard' : s.port.guardFrom + 50000 < drawn.upTo := hguard
      rcases h with h | h | h | h
      · exact hawake h
      · have : s.port.cutoffOpen = false := hclosed
        simp [h] at this
      · omega
      · omega
    exact answers_done hx rfl

end Sys2Proof.Machine
end

section
/-! SUPPORT. TAIL_END (R41, R45 to R59): a tail observed, rejected or accepted, and a tail that only ends. -/

namespace Sys2Proof.Machine

variable {s : State}

/-- TAIL_END where the observed tail ends first. -/
theorem tailEnd_observed {o : Observation} (r : TailReadings) (hobs : s.sounding.obs = some o)
    (hfirst : NoOwnTailBefore s o.endsAt) :
    (fun s => onExpiry s.tailEndsAt (endTail r) s) s = { decideObservation r (s.advance o.endsAt) with
      rx := receiverAfterTail s o.endsAt
      sender := senderAfterTail s o.endsAt } := by
  have hends := (tailEndsAt_observed s o hobs hfirst).1
  simp only [hends, onExpiry_some]
  exact endTail_observed (s.advance o.endsAt) r o hobs hfirst

/-- Settles O27. -/
theorem rejectedObservationChangesNoFigure : Obligations.RejectedObservationChangesNoFigure := by
  intro s r hrun
  refine ⟨fun o k hobs hfirst hflipped hk => ?_, fun o hobs hfirst hflipped => ?_, fun e hlater htail hat => ?_⟩
  · have hx := tailEnd_observed r hobs hfirst
    rw [decideObservation_rejected (s := s.advance o.endsAt) r hobs hflipped ((rejection_some _ _ _ _).2 hk)] at hx
    exact answers_running (s := s) hx hrun rfl
  · have hx := tailEnd_observed r hobs hfirst
    rw [decideObservation_flipped (s := s.advance o.endsAt) r hobs hflipped] at hx
    exact answers_running (s := s) hx hrun rfl
  · obtain ⟨hends, -⟩ := endTail_own s r e htail hat hlater
    obtain ⟨-, hend⟩ := endTail_own (s.advance e) r e htail hat hlater
    have hx : (fun s => onExpiry s.tailEndsAt (endTail r) s) s = endTail r (s.advance e) := by
      simp only [hends, onExpiry_some]
    have hback : senderAfterTail (s.advance e) e = { s.sender with state := .waiting, tailAt := none } :=
      if_pos ⟨htail, hat⟩
    rw [hback] at hend
    exact answers_running (s := s) (hx.trans hend) hrun rfl

/-- The figures of an accepted observation, in the terms of Safety (R53, R54). -/
theorem observationFigures_eq {o : Observation} {r : TailReadings} {d f : Nat} (htrim : 0 < o.trim)
    (hd : DepthSampleIs o.trim (vSamples r) d)
    (hf : FractionSampleIs o.trim (UsedAccumulation o.noted (iSamples o.noted r)) f) :
    observationFigures o (vSamples r) (iSamples o.noted r) = (d, f) := by
  simp only [observationFigures, usedC_eq, depthSample_eq _ htrim _ _ hd, fractionSample_eq _ htrim _ _ hf]

/-- What is found after one entry has been replaced in its place. -/
theorem find_withReplaced {e old : Entry} (hold : s.roster.find e.serial = some old) :
    (s.withEntries (replaceEntry e s.roster.entries)).roster.find e.serial = some e ∧
      ∀ x, x ≠ e.serial → (s.withEntries (replaceEntry e s.roster.entries)).roster.find x = s.roster.find x :=
  ⟨find_replace_same e _ old hold, fun x hx => find_replace_other e _ x hx⟩

/-- An entry with an observation merged in, in the terms of Safety (R56). -/
def mergedEntry (d f : Nat) (rel : Relation) (e : Entry) : Entry :=
  { e with
    shared := figureAfter e.quality e.shared d
    through := figureAfter e.quality e.through f
    quality := qualityAfter e.quality
    relation := rel }

theorem mergeFigures_eq (d f : Nat) (rel : Relation) (e : Entry) :
    { mergeFigures d f e with relation := rel } = mergedEntry d f rel e := by
  simp only [mergeFigures, mergedEntry, merged_eq, countUp_quality]

/-- The own figures with an observation merged in, in the terms of Safety (R58, R59). -/
theorem ownMerged_eq (noted : Orientation) (d f : Nat) (s : State) : ownMerged noted d f s =
    { s.sounding with
      ownDepth := figureAfter s.sounding.ownQuality s.sounding.ownDepth d
      ownQuality := qualityAfter s.sounding.ownQuality
      senseFault := decide (250 < f)
      ownMerge := some { decidedAt := s.now, noted := noted, faultBefore := s.sounding.senseFault } } := by
  simp only [ownMerged, merged_eq, countUp_quality, Config.senseLimit]

/-- TAIL_END with an observation that passes the checks merges its figures into the stored state. -/
theorem tailEnd_accepted {o : Observation} {r : TailReadings} {d f : Nat} (hobs : s.sounding.obs = some o)
    (hfirst : NoOwnTailBefore s o.endsAt) (hflipped : o.flipped = false) (htrim : 0 < o.trim)
    (hpass : AcceptedObservation o.low (vSamples r) (iSamples o.noted r))
    (hd : DepthSampleIs o.trim (vSamples r) d)
    (hf : FractionSampleIs o.trim (UsedAccumulation o.noted (iSamples o.noted r)) f) :
    (fun s => onExpiry s.tailEndsAt (endTail r) s) s =
      { (match o.peer with
          | some serial => mergePeer serial d f { s.advance o.endsAt with sounding := tailStored r o s.sounding }
          | none => mergeOwn o.noted d f { s.advance o.endsAt with sounding := tailStored r o s.sounding } : State) with
        rx := receiverAfterTail s o.endsAt
        sender := senderAfterTail s o.endsAt } := by
  rw [tailEnd_observed r hobs hfirst,
    decideObservation_accepted (s := s.advance o.endsAt) r hobs hflipped ((rejection_none _ _ _).2 hpass)]
  simp only [mergeObservation, observationFigures_eq htrim hd hf]
  rfl

/-- Settles O28: the figures go into the entry, nowhere, or into the own figures. -/
theorem acceptedObservationMoves : Obligations.AcceptedObservationMoves := by
  intro s o r d f hrun hobs hfirst hflipped htrim hpass hd hf stored
  have hx := tailEnd_accepted hobs hfirst hflipped htrim hpass hd hf
  refine ⟨fun p e hpeer hfind => ?_, fun p hpeer hfind => ?_, fun hpeer => ?_⟩
  · obtain ⟨rel, hmerged⟩ := mergePeer_some (s := { s.advance o.endsAt with
      sounding := tailStored r o s.sounding }) d f hfind
    rw [mergeFigures_eq] at hmerged
    simp only [hpeer, hmerged] at hx
    obtain ⟨u, hu, hled, heq⟩ := answers_running (s := s) hx hrun rfl
    obtain rfl : e.serial = p := find_serial _ _ _ hfind
    obtain ⟨hsame, hother⟩ := find_withReplaced (e := mergedEntry d f rel e) hfind
    have hroster : u.roster = (s.withEntries (replaceEntry (mergedEntry d f rel e) s.roster.entries)).roster := by
      rw [heq]; rfl
    refine ⟨u, rel, hu, hled, by rw [hroster]; exact hsame, by rw [hroster]; exact hother, ?_⟩
    rw [hroster]
    exact heq
  · have hdropped := mergePeer_none (s := { s.advance o.endsAt with sounding := tailStored r o s.sounding }) d f hfind
    simp only [hpeer, hdropped] at hx
    exact answers_running (s := s) hx hrun rfl
  · obtain ⟨rel, hown⟩ := mergeOwn_entries o.noted d f { s.advance o.endsAt with sounding := tailStored r o s.sounding }
    rw [ownMerged_eq] at hown
    simp only [hpeer, hown] at hx
    obtain ⟨u, hu, hled, heq⟩ := answers_running (s := s) hx hrun rfl
    have hroster : u.roster.entries = s.roster.entries.map fun e => { e with relation := rel e } := by rw [heq]; rfl
    refine ⟨u, hu, hled, by simp [hroster], ?_⟩
    rw [hroster]
    exact heq

end Sys2Proof.Machine
end

section
/-! SUPPORT. Messages delivered (02, 04, 06, 09): what the fields of a PRESENCE say, and what its owners make of a message of each
kind. -/

namespace Sys2Proof.Machine

variable {s : State}

/-! ### Reading the fields (R21, R30) -/

/-- A message comes from a frame of a known class whose length and site pass (R23). -/
theorem judgeFrame_message {stored : Site} {f : Frame} {m : Message} (h : judgeFrame stored f = .message m) :
    ∃ k, kindOfClass f.cls = some k ∧ lengthCheck k f.fields = none ∧ readFields k f.fields = .message m := by
  unfold judgeFrame at h
  cases hk : kindOfClass f.cls with
  | none => simp [hk] at h
  | some k =>
    simp only [hk] at h
    cases hl : lengthCheck k f.fields with
    | some bad =>
      simp only [hl] at h
      exact absurd (h ▸ hl) (lengthCheck_ne_message k f.fields m)
    | none =>
      simp only [hl] at h
      split at h
      · exact ⟨k, rfl, hl, h⟩
      · cases h

theorem kindOfClass_presence {cls : BitVec 3} (h : kindOfClass cls = some .presence) : cls = 2 := by
  revert cls
  decide

/-- Only a frame of class PRESENCE is read as one. -/
theorem readFields_presence {k : Kind} {fields : List Byte} {p : PresenceIn}
    (h : readFields k fields = .message (.presence p)) : k = .presence := by
  cases k with
  | presence => rfl
  | test =>
    have h' : readTest fields = .message (.presence p) := h
    unfold readTest at h'
    (repeat' split at h') <;> cases h'
  | query =>
    have h' : readQuery fields = .message (.presence p) := h
    unfold readQuery at h'
    (repeat' split at h') <;> cases h'
  | quiet => cases h
  | reply =>
    have h' : readReply fields = .message (.presence p) := h
    unfold readReply at h'
    dsimp only at h'
    (repeat' split at h') <;> cases h'

theorem fieldNat_two {fields : List Byte} {k : Nat} (h : k + 1 < fields.length) :
    fieldNat fields k 2 = 256 * fieldAt fields k + fieldAt fields (k + 1) := by
  simp only [fieldNat, fieldAt, List.drop_eq_getElem_cons (show k < fields.length by omega),
    List.drop_eq_getElem_cons h, List.take_succ_cons, List.take_zero, bytesToNat, List.foldl_cons, List.foldl_nil,
    getD_of_lt _ (show k < fields.length by omega), getD_of_lt _ h]
  omega

theorem fieldNat_three {fields : List Byte} {k : Nat} (h : k + 2 < fields.length) :
    fieldNat fields k 3 = 65536 * fieldAt fields k + 256 * fieldAt fields (k + 1) + fieldAt fields (k + 2) := by
  simp only [fieldNat, fieldAt, List.drop_eq_getElem_cons (show k < fields.length by omega),
    List.drop_eq_getElem_cons (show k + 1 < fields.length by omega), List.drop_eq_getElem_cons h, List.take_succ_cons,
    List.take_zero, bytesToNat, List.foldl_cons, List.foldl_nil, getD_of_lt _ (show k < fields.length by omega),
    getD_of_lt _ (show k + 1 < fields.length by omega), getD_of_lt _ h]
  omega

theorem headStateOfCode_mod (n : Nat) : headStateOfCode (n % 8) = headStateOfCode n := by
  simp [headStateOfCode]

/-- What is read of a frame that is a received PRESENCE (R30). -/
theorem judgeFrame_presence {stored : Site} {f : Frame} {p : PresenceIn}
    (h : judgeFrame stored f = .message (.presence p)) :
    f.cls = 2 ∧ 15 ≤ f.fields.length ∧ readPresence f.fields = .message (.presence p) := by
  obtain ⟨k, hkind, hlength, hread⟩ := judgeFrame_message h
  obtain rfl := readFields_presence hread
  refine ⟨kindOfClass_presence hkind, ?_, hread⟩
  refine Decidable.byContradiction fun hshort => ?_
  simp [lengthCheck, Nat.lt_of_not_le hshort] at hlength

/-! ### What the roster takes in (R65, R67, R71) -/

/-- A message of a kind that the roster takes in, applied to an entry made LIVE, in the terms of Safety. -/
theorem applyMessage_entryAfter {m : Message} (via : Via) (old : Entry) (hk : RosterKind m) :
    applyMessage m { old with age := 0, state := .live, via := via } = entryAfter m via old := by
  cases m with
  | presence p =>
    simp only [applyMessage, entryAfter, restartsAfter, countUp, Config.restartsTop]
    cases old.uptime with
    | none => rfl
    | some x => by_cases hless : p.uptime < x <;> by_cases htop : old.restarts < 15 <;> simp [hless, htop]
  | test address kind number typeTested => cases kind <;> rfl
  | query => exact hk.elim
  | quiet => exact hk.elim
  | reply => rfl

theorem entryAfter_serial (m : Message) (via : Via) (old : Entry) : (entryAfter m via old).serial = old.serial := by
  cases m <;> rfl

/-- A message that the roster takes in: its sender has an entry, or there is room. -/
theorem messageTakenIn {t : Nat} {h : Heard} {frame : RxFrame} {sender : Serial} {via : Via} {iDamaged : Bool} {m : Message}
    {old : Entry} (hrun : s.supply.phase = .running) (hhand : FrameAtHand s (max s.now t) frame h)
    (hout : receptionOf s.settings.site frame h = .delivered sender via iDamaged m) (hpeer : sender ≠ s.settings.serial)
    (hk : RosterKind m) (hold : s.roster.find sender = some old ∨
      (s.roster.find sender = none ∧ s.roster.entries.length < 250 ∧ old = blankEntry sender via)) :
    ∃ u, exec (commandOf m t h) s = .next u ∧ LedFollows s u ∧ RosterTook s u (entryAfter m via old) ∧
      AskedOnConflictChange s u ∧
      u = { s with
        now := max s.now t
        rx := receiverAfterGood s.rx frame h iDamaged
        roster := u.roster
        sender := u.sender
        sched := u.sched
        journal := journalAfterMessage s sender m
        sounding := soundingAfterMessage s (max s.now t) sender m
        indicator := u.indicator } := by
  obtain ⟨es, rel, htaken, hits, hothers⟩ := takeIn_known (counted s t frame h iDamaged) sender via m old hold
  rw [applyMessage_entryAfter via old hk] at hits
  have hserial : (entryAfter m via old).serial = sender := by
    rw [entryAfter_serial]
    rcases hold with hfound | ⟨-, -, rfl⟩
    · exact find_serial _ _ _ hfound
    · rfl
  have hasked := evaluateConflict_asked ((counted s t frame h iDamaged).withEntries es)
  have hx := exec_commandOf s t h frame sender via iDamaged m hrun hhand hout
  rw [deliver_roster (counted s t frame h iDamaged) sender via m hpeer hk, htaken, evaluateConflict_eq] at hx
  rw [evaluateConflict_eq] at hasked
  obtain ⟨u, hu, hled, heq⟩ := answers_done hx rfl
  refine ⟨u, hu, hled, ⟨⟨rel, ?_⟩, fun x hx => ?_, ?_, ?_⟩, ?_, ?_⟩
  · rw [← hserial] at hits
    rw [heq]
    exact hits
  · rw [heq]
    exact hothers x (hserial ▸ hx)
  · rw [heq]; rfl
  · rw [heq]; rfl
  · exact asked_congr s _ u hasked (by rw [heq]) (by rw [heq]) (by rw [heq])
  · rw [heq]; rfl

/-- Settles O29: reading the frame, and taking its message in. -/
theorem presenceTakenIn : Obligations.PresenceTakenIn := by
  constructor
  · intro stored f p hjudged byte
    obtain ⟨hclass, hlength, hread⟩ := judgeFrame_presence hjudged
    unfold readPresence at hread
    cases htest : testStateOfCode (fieldAt f.fields 13 / 8 % 4) with
    | none => simp [htest] at hread
    | some testState =>
      simp only [htest] at hread
      split at hread
      · cases hread
      case isFalse hvalid =>
        cases hread
        simp only [Config.addressTop, not_or, Nat.not_lt] at hvalid
        refine ⟨hclass, rfl, hvalid.1, ?_, fieldNat_three (by omega), ?_, ?_, (headStateOfCode_mod _).symm, htest, rfl⟩
        · show max 30 (min 155 (byte 3)) = _
          split
          · omega
          · split <;> omega
        · simp only [bringTrim, fieldNat_two (show 7 + 1 < f.fields.length by omega), Config.trimLow, Config.trimHigh]
          show max 9000 (min 11000 (256 * byte 7 + byte 8)) = _
          split
          · omega
          · split <;> omega
        · simp only [bringDepth, fieldNat_two (show 9 + 1 < f.fields.length by omega)]
          rfl
  · intro s t h frame sender via iDamaged p old hrun hhand hout hpeer hold
    exact messageTakenIn (m := .presence p) hrun hhand hout hpeer trivial hold

/-- Settles O30. -/
theorem testTakenIn : Obligations.TestTakenIn := by
  intro s t h frame sender via iDamaged address kind number typeTested old hrun hhand hout hpeer hold
  exact messageTakenIn (m := .test address kind number typeTested) hrun hhand hout hpeer trivial hold

/-- Settles O31. -/
theorem replyTakenIn : Obligations.ReplyTakenIn := by
  intro s t h frame sender via iDamaged old hrun hhand hout hpeer hold
  exact messageTakenIn (m := .reply) hrun hhand hout hpeer trivial hold

/-! ### The own serial (R73) -/

/-- Settles O37. -/
theorem ownSerialOnlySetsClash : Obligations.OwnSerialOnlySetsClash := by
  intro s t h frame via iDamaged m hrun hhand hout
  have hx := exec_commandOf s t h frame _ via iDamaged m hrun hhand hout
  have hown : deliver s.settings.serial via m (counted s t frame h iDamaged) =
      { counted s t frame h iDamaged with roster := { s.roster with clash := true } } := if_pos rfl
  rw [hown] at hx
  exact answers_done hx rfl

/-! ### A full roster (R77, R78) -/

/-- Where no two entries have one serial, one entry less remains without one of them. -/
theorem length_dropSerial {es : List Entry} (hes : es.Pairwise fun a b => a.serial ≠ b.serial) {old : Entry}
    (hold : old ∈ es) : (dropSerial old.serial es).length + 1 = es.length := by
  induction es with
  | nil => cases hold
  | cons e es ih =>
    obtain ⟨hfirst, hrest⟩ := List.pairwise_cons.1 hes
    rcases List.mem_cons.1 hold with rfl | hold
    · have hkept : dropSerial old.serial es = es := List.filter_eq_self.2 fun x hx => by simpa using (hfirst x hx).symm
      have hdropped : dropSerial old.serial (old :: es) = dropSerial old.serial es := by simp [dropSerial]
      rw [hdropped, hkept, List.length_cons]
    · have hne : e.serial ≠ old.serial := hfirst old hold
      have hkept : dropSerial old.serial (e :: es) = e :: dropSerial old.serial es := by simp [dropSerial, hne]
      rw [hkept, List.length_cons, List.length_cons, ih hrest hold]

/-- The STALE entry that R77 describes gives way, up to entries of its serial. -/
theorem oldestStale_serial {es : List Entry} {old : Entry} (hold : old ∈ es) (hstale : old.state = .stale)
    (holdest : ∀ x ∈ es, x.state = .stale → x.age < old.age ∨ (x.age = old.age ∧ old.serial.toNat ≤ x.serial.toNat)) :
    ∃ o, oldestStale es = some o ∧ o.serial = old.serial := by
  cases ho : oldestStale es with
  | none => exact absurd hstale ((oldestStale_none es).1 ho old hold)
  | some o =>
    obtain ⟨hmem, hstate, hfirst⟩ := oldestStale_some es o ho
    refine ⟨o, rfl, BitVec.eq_of_toNat_eq ?_⟩
    have hbefore := hfirst old hold hstale
    have hafter := holdest o hmem hstate
    unfold GivesWayBefore at hbefore
    omega

/-- What is found once a newcomer has taken the place of an evicted entry. -/
theorem find_evicted {es : List Entry} {e old : Entry} (hold : old ∈ es)
    (hnew : es.find? (fun x => decide (x.serial = e.serial)) = none) :
    (placeEntry e (dropSerial old.serial es)).find? (fun x => decide (x.serial = old.serial)) = none ∧
      (placeEntry e (dropSerial old.serial es)).find? (fun x => decide (x.serial = e.serial)) = some e ∧
      ∀ y, y ≠ old.serial → y ≠ e.serial →
        (placeEntry e (dropSerial old.serial es)).find? (fun x => decide (x.serial = y)) =
          es.find? fun x => decide (x.serial = y) := by
  have hne : old.serial ≠ e.serial := by
    have hnone := List.find?_eq_none.1 hnew old hold
    simpa using hnone
  refine ⟨?_, find_place_same _ _ ?_, fun y hold' hnew' => ?_⟩
  · rw [find_place_other _ _ _ hne, find_drop_same]
  · rw [find_drop_other _ _ _ hne.symm, hnew]
  · rw [find_place_other _ _ _ hnew', find_drop_other _ _ _ hold']

/-- The entry of a newcomer, in the terms of Safety (R65, R71). -/
theorem classified_newcomer {m : Message} (s : State) (sender : Serial) (via : Via) (hk : RosterKind m) :
    ∃ rel, classified s (applyMessage m (blankEntry sender via)) =
      { entryAfter m via (newcomer sender via) with relation := rel } := by
  have hfields : applyMessage m (blankEntry sender via) = entryAfter m via (newcomer sender via) :=
    applyMessage_entryAfter via (blankEntry sender via) hk
  exact ⟨_, by rw [hfields]; rfl⟩

/-- A newcomer takes the place of the oldest STALE entry (R77). -/
theorem takeIn_evicts {sender : Serial} {via : Via} {m : Message} {o : Entry} (hfind : s.roster.find sender = none)
    (hfull : s.roster.entries.length = 250) (ho : oldestStale s.roster.entries = some o) :
    takeIn sender via m s = evaluateConflict (s.withEntries
      (placeEntry (classified s (applyMessage m (blankEntry sender via))) (dropSerial o.serial s.roster.entries))) := by
  simp [takeIn, hfind, takeNewcomer, hfull, Config.rosterCapacity, ho, enterAmong]

/-- With no STALE entry a newcomer is refused (R78). -/
theorem takeIn_refuses {sender : Serial} {via : Via} {m : Message} (hfind : s.roster.find sender = none)
    (hfull : s.roster.entries.length = 250) (hlive : ∀ x ∈ s.roster.entries, x.state = .live) :
    takeIn sender via m s = { s with roster := { s.roster with full := true } } := by
  have hnone : oldestStale s.roster.entries = none :=
    (oldestStale_none _).2 fun x hx => by simp [hlive x hx]
  simp [takeIn, hfind, takeNewcomer, hfull, Config.rosterCapacity, hnone]

/-- Settles O32: the oldest STALE entry gives way, or with none the newcomer is refused. -/
theorem fullRosterEvictsOrRefuses : Obligations.FullRosterEvictsOrRefuses := by
  intro s t h frame sender via iDamaged m hrun hhand hk hout hpeer hfind hfull
  have hx := exec_commandOf s t h frame sender via iDamaged m hrun hhand hout
  rw [deliver_roster (counted s t frame h iDamaged) sender via m hpeer hk] at hx
  constructor
  · intro old hold hstale holdest
    obtain ⟨o, ho, hoserial⟩ := oldestStale_serial hold hstale holdest
    have htaken := takeIn_evicts (s := counted s t frame h iDamaged) (via := via) (m := m) hfind hfull ho
    obtain ⟨rel, hentry⟩ := classified_newcomer (counted s t frame h iDamaged) sender via hk
    have hserial : ({ entryAfter m via (newcomer sender via) with relation := rel } : Entry).serial = sender :=
      entryAfter_serial m via _
    obtain ⟨hgone, hits, hothers⟩ := find_evicted (e := { entryAfter m via (newcomer sender via) with relation := rel })
      hold (by rw [hserial]; exact hfind)
    rw [hserial] at hits hothers
    rw [hentry, hoserial] at htaken
    have hasked := evaluateConflict_asked ((counted s t frame h iDamaged).withEntries
      (placeEntry { entryAfter m via (newcomer sender via) with relation := rel } (dropSerial old.serial s.roster.entries)))
    rw [evaluateConflict_eq] at hasked
    rw [htaken, evaluateConflict_eq] at hx
    obtain ⟨u, hu, hled, heq⟩ := answers_done hx rfl
    have hentries : u.roster.entries = placeEntry { entryAfter m via (newcomer sender via) with relation := rel }
        (dropSerial old.serial s.roster.entries) := by rw [heq]; rfl
    refine ⟨u, rel, hu, hled, ?_, ?_, ?_, fun hfits => ?_, ?_, ?_, ?_, ?_⟩
    · rw [find_def, hentries]
      exact hgone
    · rw [find_def, hentries]
      exact hits
    · intro x hxold hxnew
      rw [find_def, hentries]
      exact hothers x hxold hxnew
    · rw [hentries, length_place, length_dropSerial hfits.oneForASerial hold, hfull]
    · rw [heq]; rfl
    · rw [heq]; rfl
    · exact asked_congr s _ u hasked (by rw [heq]; rfl) (by rw [heq]; rfl) (by rw [heq]; rfl)
    · rw [heq]; rfl
  · intro hlive
    rw [takeIn_refuses (s := counted s t frame h iDamaged) hfind hfull hlive] at hx
    exact answers_done hx rfl

/-! ### QUERY and QUIET (R119 to R121, R152 to R158) -/

theorem concerns_iff (s : State) (selector : Selector) (item : Nat) :
    concerns s selector item = true ↔ QueryConcerns s selector item := by
  cases selector with
  | serial x => simp [concerns, QueryConcerns]
  | address a => simp [concerns, QueryConcerns]
  | all => simp [concerns, QueryConcerns, or_assoc]

/-- A QUERY of a peer reaches the reply unit. -/
theorem exec_query {t : Nat} {h : Heard} {frame : RxFrame} {sender : Serial} {via : Via} {iDamaged : Bool}
    {selector : Selector} {item : Nat} {index : Option Nat} (hrun : s.supply.phase = .running)
    (hhand : FrameAtHand s (max s.now t) frame h)
    (hout : receptionOf s.settings.site frame h = .delivered sender via iDamaged (.query selector item index))
    (hpeer : sender ≠ s.settings.serial) :
    exec (.query t h) s = done (deliverQuery sender selector item index (counted s t frame h iDamaged)) := by
  have hx := exec_commandOf s t h frame sender via iDamaged _ hrun hhand hout
  rwa [deliver_peer (counted s t frame h iDamaged) sender via _ hpeer] at hx

theorem deliverQuery_ignored {requester : Serial} {selector : Selector} {item : Nat} {index : Option Nat}
    (h : ¬QueryConcerns s selector item ∨ (item ≠ 3 ∧ (s.sender.reply.filled = true ∨ s.retained.lockout = true))) :
    deliverQuery requester selector item index s = s := by
  by_cases hconcerns : concerns s selector item = true
  · obtain ⟨hitem, hbusy⟩ := h.resolve_left (Classical.not_not.2 ((concerns_iff _ _ _).1 hconcerns))
    simp [deliverQuery, hconcerns, hitem, hbusy]
  · simp [deliverQuery, hconcerns]

theorem deliverQuery_sound {requester : Serial} {selector : Selector} {index : Option Nat}
    (h : QueryConcerns s selector 3) : deliverQuery requester selector 3 index s = exemptRequest s := by
  simp [deliverQuery, (concerns_iff _ _ _).2 h]

/-- A query that is taken writes the record, fills the REPLY slot, and starts the timer of IDENTIFY. -/
theorem deliverQuery_taken {requester : Serial} {selector : Selector} {item : Nat} {index : Option Nat}
    (h : QueryConcerns s selector item) (hitem : item ≠ 3) (hfree : s.sender.reply.filled = false)
    (hlockout : s.retained.lockout = false) : deliverQuery requester selector item index s = { s with
      sender := { s.sender with reply := { filled := true, aborts := 0, refill := false } }
      reply := { record := some { requester := requester, item := item, index := index } }
      indicator := { s.indicator with
        identify := if item = 4 then some (s.now + 20000000) else s.indicator.identify } } := by
  have htaken : deliverQuery requester selector item index s = takeQuery requester item index s := by
    simp [deliverQuery, (concerns_iff _ _ _).2 h, hitem, hfree, hlockout]
  have hslot : slotAfterFill { s with reply := { record := some { requester := requester, item := item, index := index } } }
      .reply = { filled := true } := by simp [slotAfterFill, LineSender.slot, hlockout, hfree]
  rw [htaken]
  by_cases hidentify : item = 4
  · subst hidentify
    simp [takeQuery, fillSlot_eq, hslot, State.setSlot, LineSender.setSlot, State.timerFor, Config.identifyTime]
  · simp [takeQuery, hidentify, fillSlot_eq, hslot, State.setSlot, LineSender.setSlot]

/-- Settles O33: taken, an exempt request, or no effect. -/
theorem queryTaken : Obligations.QueryTaken := by
  intro s t h frame sender via iDamaged selector item index hrun hhand hout hpeer c
  have hx := exec_query hrun hhand hout hpeer
  refine ⟨fun hconcerns hitem hfree hlockout => ?_, fun hconcerns hitem => ?_, fun hno => ?_⟩
  · intro identify
    rw [deliverQuery_taken (s := counted s t frame h iDamaged) hconcerns hitem hfree hlockout] at hx
    rw [hx]
    exact done_answers { s with indicator := { s.indicator with identify := identify } } _ rfl
  · subst hitem
    rw [deliverQuery_sound (s := counted s t frame h iDamaged) hconcerns, exemptRequest_eq] at hx
    exact answers_done hx rfl
  · rw [deliverQuery_ignored (s := counted s t frame h iDamaged) hno] at hx
    exact answers_done hx rfl

theorem takeQuiet_zero (s : State) :
    takeQuiet 0 s = if s.sched.quietUntil.isSome = true then endQuiet s else s := rfl

/-- Settles O34. -/
theorem quietTaken : Obligations.QuietTaken := by
  intro s t h frame sender via iDamaged duration hrun hhand hout hpeer m c
  have hx := exec_commandOf s t h frame sender via iDamaged _ hrun hhand hout
  rw [deliver_peer (counted s t frame h iDamaged) sender via _ hpeer] at hx
  refine ⟨fun hpos => ?_, fun hzero hquiet => ?_, fun hzero hquiet => ?_⟩
  · intro withdrawn
    have htop : seconds (min duration 60) = 1000000 * (if 60 < duration then 60 else duration) := by
      unfold seconds
      split <;> omega
    dsimp only at hx
    rw [takeQuiet_positive _ duration hpos, htop] at hx
    exact answers_done hx rfl
  · subst hzero
    have hends : takeQuiet 0 (counted s t frame h iDamaged) = endQuiet (counted s t frame h iDamaged) :=
      (takeQuiet_zero _).trans (if_pos (Option.isSome_iff_ne_none.2 hquiet))
    dsimp only at hx
    rw [hends, endQuiet_eq] at hx
    exact answers_done hx rfl
  · subst hzero
    have hends : takeQuiet 0 (counted s t frame h iDamaged) = counted s t frame h iDamaged :=
      (takeQuiet_zero _).trans (if_neg (by simp [counted, hquiet]))
    dsimp only at hx
    rw [hends] at hx
    exact answers_done hx rfl

end Sys2Proof.Machine
end

section
/-! SUPPORT. The decision of a frame (R3, R15, R16, R23 to R26) and what a discarded frame leaves (R18). -/

namespace Sys2Proof.Machine

variable {s : State}

/-! ### The table of R15 -/

theorem decideChannels_valid_other {f : Frame} {i : ChannelResult} (hi : ∀ x, i ≠ .valid x) (hsilent : i ≠ .silent) :
    decideChannels (.valid f) i = .accepted f .v true := by
  cases i with
  | valid x => exact absurd rfl (hi x)
  | silent => exact absurd rfl hsilent
  | _ => rfl

theorem decideChannels_other_valid {g : Frame} {v : ChannelResult} (hv : ∀ x, v ≠ .valid x) :
    decideChannels v (.valid g) = .accepted g .i false := by
  cases v with
  | valid x => exact absurd rfl (hv x)
  | _ => rfl

/-- A frame lost on both channels has the damage kind of its V result. -/
theorem decideChannels_lost {v i : ChannelResult} (hv : ∀ x, v ≠ .valid x) (hi : ∀ x, i ≠ .valid x) :
    decideChannels v i =
      .damaged (if v = .coding ∨ v = .silent then .vCoding else if v = .check then .vCheck else .length) := by
  have hlost : decideChannels v i = .damaged (damageOfV v) := by
    cases v with
    | valid x => exact absurd rfl (hv x)
    | _ =>
      cases i with
      | valid x => exact absurd rfl (hi x)
      | _ => rfl
  rw [hlost]
  cases v with
  | valid x => exact absurd rfl (hv x)
  | _ => rfl

/-! ### The I-channel (R3) -/

theorem halvesOnI_get (f : RxFrame) (cs : List Int) (k j : Nat) :
    (halvesOnI f k cs)[j]? = (cs[j]?).map fun c => !f.mutedAt (f.halfMiddle (k + j)) && judgeI f.orientation c := by
  induction cs generalizing k j with
  | nil => simp [halvesOnI]
  | cons c cs ih =>
    cases j with
    | zero => simp [halvesOnI]
    | succ j => simp [halvesOnI, ih, Nat.add_right_comm, Nat.add_assoc]

/-- The isolator is CLOSED where the crossings so far, with the state at START, are even. -/
theorem mutedAt_eq (f : RxFrame) (t : Nat) : (!f.mutedAt t) =
    (((f.crossings.countP fun c => decide (c ≤ t)) + if f.mutedAtStart = true then 1 else 0) % 2 == 0) := by
  unfold RxFrame.mutedAt
  generalize f.crossings.countP (fun c => decide (c ≤ t)) = n
  rcases Nat.mod_two_eq_zero_or_one n with hn | hn <;> cases f.mutedAtStart <;> simp [Nat.add_mod, hn]

/-! ### The division into frame and tail (R16) -/

theorem announcing_iff (x : ChannelResult) (f : Frame) :
    x.announcing = some f ↔ x = .valid f ∧ f.announcesTail = true := by
  cases x with
  | valid g =>
    by_cases hg : g.announcesTail = true
    · simp only [ChannelResult.announcing, hg, if_true, Option.some.injEq, ChannelResult.valid.injEq]
      exact ⟨fun h => ⟨h, h ▸ hg⟩, And.left⟩
    · simp only [ChannelResult.announcing, hg, ChannelResult.valid.injEq]
      exact ⟨nofun, fun h => absurd (h.1 ▸ h.2) hg⟩
  | _ => exact ⟨nofun, nofun⟩

theorem announcing_none (x : ChannelResult) : x.announcing = none ↔ ∀ f, ¬(x = .valid f ∧ f.announcesTail = true) := by
  rw [Option.eq_none_iff_forall_not_mem]
  exact forall_congr' fun f => not_congr (announcing_iff x f)

theorem tailFollows_none (v i : ChannelResult) : tailFollows v i = none ↔
    ∀ f, ¬(v = .valid f ∧ f.announcesTail = true) ∧ ¬(i = .valid f ∧ f.announcesTail = true) := by
  simp only [tailFollows, Option.or_eq_none_iff, announcing_none, forall_and]

theorem tailFollows_some (v i : ChannelResult) (f : Frame) (h : (v = .valid f ∧ f.announcesTail = true) ∨
    ((∀ g, ¬(v = .valid g ∧ g.announcesTail = true)) ∧ i = .valid f ∧ f.announcesTail = true)) :
    tailFollows v i = some f := by
  rcases h with hv | ⟨hv, hi⟩
  · simp [tailFollows, (announcing_iff v f).2 hv]
  · simp [tailFollows, (announcing_none v).2 hv, (announcing_iff i f).2 hi]

/-! ### The acceptance checks (R23, R26) -/

theorem readFields_ne_foreign (k : Kind) (fields : List Byte) : readFields k fields ≠ .foreign := by
  cases k with
  | presence =>
    show readPresence fields ≠ .foreign
    unfold readPresence
    (repeat' split) <;> exact Verdict.noConfusion
  | test =>
    show readTest fields ≠ .foreign
    unfold readTest
    (repeat' split) <;> exact Verdict.noConfusion
  | query =>
    show readQuery fields ≠ .foreign
    unfold readQuery
    (repeat' split) <;> exact Verdict.noConfusion
  | quiet => exact Verdict.noConfusion
  | reply =>
    show readReply fields ≠ .foreign
    unfold readReply
    dsimp only
    (repeat' split) <;> exact Verdict.noConfusion

/-- The site-code filter sets a frame aside exactly when both codes are non-zero and differ (R26). -/
theorem siteTaken_false (stored carried : Site) :
    siteTaken stored carried = false ↔ stored ≠ 0 ∧ carried ≠ 0 ∧ stored ≠ carried := by
  simp [siteTaken, and_assoc]

theorem judgeFrame_foreign {stored : Site} {f : Frame} {k : Kind} (hkind : kindOfClass f.cls = some k)
    (hlength : lengthCheck k f.fields = none) :
    judgeFrame stored f = .foreign ↔ stored ≠ 0 ∧ frameSite f.fields ≠ 0 ∧ stored ≠ frameSite f.fields := by
  rw [← siteTaken_false]
  cases hsite : siteTaken stored (frameSite f.fields) with
  | true => simpa [judgeFrame, hkind, hlength, hsite] using readFields_ne_foreign k f.fields
  | false => simp [judgeFrame, hkind, hlength, hsite]

/-! ### A frame discarded or set aside (R18) -/

/-- FRAME_DISCARDED takes the outcome of the frame at hand. -/
theorem exec_frameDiscarded {t : Nat} {h : Heard} {frame : RxFrame} (hrun : s.supply.phase = .running)
    (hhand : FrameAtHand s (max s.now t) frame h)
    (hdiscard : (receptionOf s.settings.site frame h).isDiscard = true) :
    exec (.frameDiscarded t h) s = done (takeReception (receptionOf s.settings.site frame h)
      { s.advance t with rx := withoutFrame s.rx frame h }) := by
  have hx := receiveIf_atHand (s.advance t) h frame Reception.isDiscard hhand hdiscard
  exact congrArg done ((whenRunning_running (s.advance t) _ hrun).trans hx)

/-- Settles O35: the table, the I-channel, the checks, the division, the outcome, and the tallies. -/
theorem discardedFrameOnlyCounted : Obligations.DiscardedFrameOnlyCounted := by
  refine ⟨fun f g v i => ⟨rfl, rfl, decideChannels_valid_other, decideChannels_other_valid, decideChannels_lost⟩, ?_, ?_, ?_,
    ?_, ?_⟩
  · intro frame h j middle closed
    have hget := halvesOnI_get frame h.through 0 j
    rw [Nat.zero_add, mutedAt_eq] at hget
    exact hget
  · intro stored f k
    exact ⟨fun hk => by simp [judgeFrame, hk], fun bad hk hl => by simp [judgeFrame, hk, hl], judgeFrame_foreign⟩
  · intro frame h v i upTo announced
    constructor
    · intro hnone
      have htail := (tailFollows_none v i).2 hnone
      simp only [decideFrame, v, i] at htail ⊢
      rw [htail]
      rfl
    · intro f hsome
      have htail := tailFollows_some v i f hsome
      simp only [decideFrame, v, i] at htail ⊢
      rw [htail]
      rfl
  · intro stored frame h
    refine ⟨fun k hk => by simp [receptionOf, hk], fun f via d hf =>
      ⟨fun m hm => ?_, fun hj => ?_, fun hj => ?_, fun hj => ?_⟩⟩
    · simp [receptionOf, hf, hm]
    · simp [receptionOf, hf, hj]
    · simp [receptionOf, hf, hj]
    · simp [receptionOf, hf, hj]
  · intro s t h frame hrun
    obtain ⟨-, hdamaged, hforeign, -⟩ := withoutFrame_tallies s.rx frame h
    refine ⟨fun k hout hhand => ?_, fun hout hhand => ?_⟩
    · have hx := exec_frameDiscarded hrun hhand (by rw [hout]; rfl)
      rw [hout] at hx
      simp only [takeReception, countDamaged, hdamaged] at hx
      exact answers_done hx rfl
    · have hx := exec_frameDiscarded hrun hhand (by rw [hout]; rfl)
      rw [hout] at hx
      simp only [takeReception, countForeign, hforeign] at hx
      exact answers_done hx rfl

end Sys2Proof.Machine
end

section
/-! SUPPORT. The second tick and what it paces (04, 05, 06, 10): ageing, the orientation's readings, an entry's two thresholds,
the presence timer and the end of quiet. -/

namespace Sys2Proof.Machine

variable {s : State}

/-! ### What a request and the LED block read -/

/-- A routine request reads the sender, the scheduler and the lockout alone (R115, R120). -/
theorem afterRoutine_congr {x y : State} (hsender : x.sender = y.sender) (hsched : x.sched = y.sched)
    (hretained : x.retained = y.retained) :
    presenceAfterRoutine x = presenceAfterRoutine y ∧ schedAfterRoutine x = schedAfterRoutine y := by
  unfold presenceAfterRoutine schedAfterRoutine slotAfterFill State.presenceWaits State.onLine
  rw [hsender, hsched, hretained]
  exact ⟨rfl, rfl⟩

/-- What the pattern of the first condition reads (R186). -/
theorem firstCondition_congr {x y : State} (hsupply : x.supply = y.supply) (hretained : x.retained = y.retained)
    (hled : x.indicator = y.indicator) (hir : x.ir = y.ir) (hhead : x.head = y.head)
    (hconflict : x.roster.conflict = y.roster.conflict) (hsettings : x.settings = y.settings) :
    x.firstCondition = y.firstCondition := by
  unfold State.firstCondition State.conflictShown
  rw [hsupply, hretained, hled, hir, hhead, hconflict, hsettings]

/-- Two states with one LED block, one moment and one first condition have one LED block after their commands. -/
theorem refreshIndicator_alike {x y : State} (hled : y.indicator = x.indicator) (hnow : y.now = x.now)
    (hfirst : y.firstCondition = x.firstCondition) :
    y.refreshIndicator = { y with indicator := x.refreshIndicator.indicator } := by
  unfold State.refreshIndicator
  rw [hfirst, hled, hnow]
  split
  · rw [← hled, ← hnow]
  · rfl

/-- Two commands of one moment leave the LED block as one command does whose first condition is the same (R186). -/
theorem refreshIndicator_twice {x y : State} (hled : y.indicator = x.indicator) (hnow : y.now = x.now)
    (hfirst : y.firstCondition = x.firstCondition) :
    State.refreshIndicator { y with indicator := x.refreshIndicator.indicator } = y.refreshIndicator := by
  rw [← refreshIndicator_alike hled hnow hfirst]
  exact if_pos (refreshIndicator_shown y).symm

/-! ### The head after an event of its own (R141) -/

/-- A head event that only writes the head: a routine request where its state or the test state has changed. -/
theorem headEvent_withHead {f : State → State} {h : Head} (hf : f s = s.withHead h) : headEvent f s =
    if h.state = s.head.state ∧ h.record.state = s.head.record.state then s.withHead h
    else { s.withHead h with
      sender := { s.sender with presence := presenceAfterRoutine s }
      sched := schedAfterRoutine s } := by
  simp only [headEvent, hf, routineRequest_eq]
  rfl

/-- A head event that moves the head's state makes one routine request. -/
theorem headEvent_moved {f : State → State} {h : Head} (hf : f s = s.withHead h) (hmoved : h.state ≠ s.head.state) :
    headEvent f s = { s with
      head := h
      sender := { s.sender with presence := presenceAfterRoutine s }
      sched := schedAfterRoutine s } := by
  rw [headEvent_withHead hf, if_neg fun hsame => hmoved hsame.1]
  rfl

/-- A head event that moves neither state makes no request. -/
theorem headEvent_unmoved {f : State → State} {h : Head} (hf : f s = s.withHead h)
    (hsame : h.state = s.head.state ∧ h.record.state = s.head.record.state) : headEvent f s = s.withHead h := by
  rw [headEvent_withHead hf, if_pos hsame]

/-! ### Identity readings (R126 to R128, R136, R137) -/

theorem identityValue_of {code : Nat} {value : Identity} (h : IdentityIs code value) : identityValue code = value := by
  unfold identityValue
  obtain ⟨hcode, rfl⟩ | ⟨hlow, hcode, rfl⟩ | ⟨hlow, hcode, rfl⟩ | ⟨hlow, hcode, rfl⟩ | ⟨hlow, hcode, rfl⟩ |
    ⟨hlow, hcode, rfl⟩ | ⟨hlow, rfl⟩ := h
  · exact if_pos hcode
  · rw [if_neg (by omega), if_pos hcode]
  · rw [if_neg (by omega), if_neg (by omega), if_pos hcode]
  · rw [if_neg (by omega), if_neg (by omega), if_neg (by omega), if_pos hcode]
  · rw [if_neg (by omega), if_neg (by omega), if_neg (by omega), if_neg (by omega), if_pos hcode]
  · rw [if_neg (by omega), if_neg (by omega), if_neg (by omega), if_neg (by omega), if_neg (by omega), if_pos hcode]
  · rw [if_neg (by omega), if_neg (by omega), if_neg (by omega), if_neg (by omega), if_neg (by omega), if_neg (by omega)]

/-- The head once its identity has become `value` (R128, R136, R137). -/
def headAfterIdentity (value : Identity) (now : Nat) (h : Head) : Head :=
  match value with
  | .head type => { headSupplied h now with
      identity := .head type, headType := some type, cycles := 0, state := .settling
      timer := some (now + 30000000), record := recordOnFitting h.record type }
  | .noHead => { headSupplied h now with
      identity := .noHead, headType := none, cycles := 0, state := .noHead, timer := none }
  | .fault => { headSupplied h now with
      identity := .fault, headType := none, cycles := 0, state := .fault, timer := none }

theorem changeIdentity_eq (value : Identity) (s : State) :
    changeIdentity value s = s.withHead (headAfterIdentity value s.now s.head) := by
  cases value <;> rfl

/-- The head after a reading of `value` (R127). -/
def headAfterReading (value : Identity) (now : Nat) (h : Head) : Head :=
  { (if value ≠ h.identity ∧ h.previous = some value then headAfterIdentity value now h else h) with
    previous := some value }

theorem readIdentity_eq (code : Nat) (s : State) :
    readIdentity code s = s.withHead (headAfterReading (identityValue code) s.now s.head) := by
  simp only [readIdentity, headAfterReading, changeIdentity_eq]
  split <;> rfl

/-- One reading, or a reading of the identity held, is only remembered (R127). -/
theorem headAfterReading_once {value : Identity} (now : Nat) {h : Head}
    (hsame : value = h.identity ∨ h.previous ≠ some value) :
    headAfterReading value now h = { h with previous := some value } := by
  unfold headAfterReading
  rw [if_neg fun ⟨hnew, hagain⟩ => hsame.elim hnew fun hother => hother hagain]

/-- The second of two equal readings changes the identity (R127). -/
theorem headAfterReading_again {value : Identity} (now : Nat) {h : Head} (hnew : value ≠ h.identity)
    (hagain : h.previous = some value) : headAfterReading value now h = headAfterIdentity value now h := by
  unfold headAfterReading
  rw [if_pos ⟨hnew, hagain⟩, ← hagain]
  cases value <;> rfl

/-! ### The second tick (R74 to R76, R176) -/

/-- Ageing one entry, in the terms of Safety (R74, R75). -/
theorem settleState_aged (e : Entry) : e.aged.settleState =
    { e with
      age := ageAfter e
      state := if e.state = .live ∧ 2 * e.interval + 10 ≤ ageAfter e then .stale else e.state } := by
  have haged : countUp Config.ageTop e.age = ageAfter e := rfl
  simp only [Entry.settleState, Entry.aged, Entry.staleAt, haged]
  split <;> rfl

theorem agedEntries_eq (es : List Entry) :
    ((es.map Entry.aged).map Entry.settleState).filter Entry.kept = entriesAfterTick es := by
  rw [List.map_map]
  exact congrArg (List.filter Entry.kept) (List.map_congr_left fun e _ => settleState_aged e)

/-- The ageing part of a second tick at `d`: uptime, next tick and roster, and a request on a change of CONFLICT. -/
theorem ageRoster_tick (s : State) (d : Nat) :
    AskedOnConflictChange s (ageRoster (countSecond (s.advance d))) ∧
      ageRoster (countSecond (s.advance d)) =
        afterTick s (max s.now d) s.head (ageRoster (countSecond (s.advance d))) := by
  refine ⟨?_, ?_⟩
  · exact evaluateConflict_asked { countSecond (s.advance d) with roster := { s.roster with
      entries := ((s.roster.entries.map Entry.aged).map Entry.settleState).filter Entry.kept
      full := if s.roster.entries.length = Config.rosterCapacity ∧
          (((s.roster.entries.map Entry.aged).map Entry.settleState).filter Entry.kept).length < Config.rosterCapacity then
        false else s.roster.full } }
  · unfold ageRoster afterRemoval
    rw [evaluateConflict_eq]
    unfold afterTick
    rw [← agedEntries_eq]
    rfl

/-- A tick at `d` without a reading of the through-current: ageing, then the identity reading as a head event. -/
theorem secondTick_none (code : BitVec 10) (x : State) :
    secondTick none code x = headEvent (readIdentity code.toNat) (ageRoster (countSecond x)) := rfl

/-- What SECOND_TICK answers, from what its head event makes of the aged station. -/
theorem exec_secondTick {d : Nat} {through : Option Int} {code : BitVec 10} {x : State}
    (hrun : s.supply.phase = .running) (hat : s.supply.tickAt = some d)
    (hx : secondTick through code (s.advance d) = x) : exec (.secondTick through code) s = done x := by
  refine congrArg done ?_
  rw [whenRunning_running s _ hrun, ← hx]
  simp only [hat, onExpiry_some]

/-- Settles O38: a reading of the identity held leaves the head's states, so the tick only ages. -/
theorem secondTickAges : Obligations.SecondTickAges := by
  intro s d code hrun hat hcode
  obtain ⟨hasked, haged⟩ := ageRoster_tick s d
  have hhead : (ageRoster (countSecond (s.advance d))).head = s.head := by simp
  have hread := readIdentity_eq code.toNat (ageRoster (countSecond (s.advance d)))
  rw [identityValue_of hcode, headAfterReading_once _ (.inl (by rw [hhead])), hhead] at hread
  have hx := (secondTick_none code (s.advance d)).trans (headEvent_unmoved hread (by simp))
  obtain ⟨u, hu, hled, heq⟩ := answers_done (exec_secondTick hrun hat hx) (by simp [State.withHead])
  refine ⟨u, hu, hled, asked_congr _ _ _ hasked (by rw [heq]; rfl) (by rw [heq]; rfl) (by rw [heq]; rfl), ?_⟩
  rw [heq, haged]
  rfl

end Sys2Proof.Machine
end

section
/-! SUPPORT. The orientation's readings (05), and the times of the roster and of the presence scheduler (04, 06). -/

namespace Sys2Proof.Machine

variable {s : State}

/-! ### Readings of the through-current (R98 to R101) -/

theorem readingValue_eq {reading : Int} {v : Orientation}
    (h : (20 ≤ reading ∧ v = .feedA) ∨ (reading ≤ -20 ∧ v = .feedB) ∨ (-20 < reading ∧ reading < 20 ∧ v = .unknown)) :
    readingValue reading = v := by
  unfold readingValue Config.directionSteps
  obtain ⟨hvalue, rfl⟩ | ⟨hvalue, rfl⟩ | ⟨hlow, hhigh, rfl⟩ := h
  · rw [if_neg (by omega), if_pos (by omega)]
  · rw [if_neg (by omega), if_neg (by omega)]
  · rw [if_pos (by omega)]

theorem isFlip_iff (before after : Orientation) : isFlip before after = true ↔
    (before = .feedA ∧ after = .feedB) ∨ (before = .feedB ∧ after = .feedA) := by
  cases before <;> cases after <;> decide

/-- No reading is formed outside CLOSED or within a second (R98, R100). -/
theorem takeReading_unformed {reading : Int}
    (h : s.isolator.state ≠ .closed ∨ s.now < s.port.readingsFrom + 1000000) : takeReading reading s = s := if_pos h

theorem takeReading_formed {reading : Int} {v : Orientation} (hclosed : s.isolator.state = .closed)
    (hsecond : s.port.readingsFrom + 1000000 ≤ s.now) (hv : readingValue reading = v) :
    takeReading reading s = actOnReading v (noteReading s) := by
  rw [takeReading, if_neg (not_or.2 ⟨fun hopen => hopen hclosed, by simp only [Config.tickTime]; omega⟩), hv]

theorem actOnReading_agrees {v : Orientation} (h : v = s.port.orientation) :
    actOnReading v s = { s with port := { s.port with run := 0 } } := if_pos h

theorem actOnReading_begins {v : Orientation} (hnew : v ≠ s.port.orientation) (hother : v ≠ s.port.candidate) :
    actOnReading v s = { s with port := { s.port with candidate := v, run := 1 } } := by
  simp [actOnReading, hnew, runAfter, hother, Config.runLength]

theorem actOnReading_counts {v : Orientation} (hnew : v ≠ s.port.orientation) (hsame : v = s.port.candidate)
    (hrun : s.port.run + 1 < 3) : actOnReading v s = { s with port := { s.port with run := s.port.run + 1 } } := by
  have hfew : ¬3 ≤ s.port.run + 1 := by omega
  simp [actOnReading, hnew, runAfter, ← hsame, Config.runLength, hfew]

theorem actOnReading_turns {v : Orientation} (hnew : v ≠ s.port.orientation) (hsame : v = s.port.candidate)
    (hrun : 3 ≤ s.port.run + 1) : actOnReading v s = changeOrientation v s := by
  rw [actOnReading, if_neg hnew, if_pos (by rw [runAfter, if_pos hsame]; exact hrun)]

/-- Without an own depth every entry is UNMEASURED (R90). -/
theorem reclassifyAll_unmeasured (hdepth : s.sounding.ownDepth = none) : reclassifyAll s =
    s.withEntries (s.roster.entries.map fun e => { e with relation := .unmeasured }) := by
  refine congrArg s.withEntries (List.map_congr_left fun e _ => ?_)
  simp [classified, relationOf, hdepth]

/-- A flip clears every figure, and every relation is UNMEASURED (R62, R85, R94). -/
theorem clearFigures_eq (s : State) : clearFigures s = { s with
    sounding := { s.sounding with ownDepth := none, ownQuality := 0 }
    roster := { s.roster with entries := s.roster.entries.map fun e => { e with
      shared := none, through := none, quality := 0, relation := .unmeasured } } } := by
  have hclassified := reclassifyAll_unmeasured (s := State.withEntries
    { s with sounding := { s.sounding with ownDepth := none, ownQuality := 0 } }
    (s.roster.entries.map Entry.withoutFigures)) rfl
  refine hclassified.trans ?_
  simp only [State.withEntries, List.map_map]
  rfl

/-- What a flip takes back of an own merge, beside the port and the observation (R43, R85). -/
theorem dropOwnMerge_turned (p : Port) (o : Option Observation) (s : State) :
    dropOwnMerge s.port.orientation { s with port := p, sounding := { s.sounding with obs := o } } =
      { s with port := p, sounding := { s.sounding with obs := o, senseFault := faultWithoutMerge s s.now } } := by
  simp only [dropOwnMerge, faultWithoutMerge]
  cases s.sounding.ownMerge with
  | none => rfl
  | some m => by_cases hm : m.decidedAt = s.now ∧ m.noted = s.port.orientation <;> simp [hm]

/-- The orientation's change, in the terms of Safety (R43, R62, R85, R94, R101). -/
theorem changeOrientation_eq (v : Orientation) (s : State) (flip : Prop) [Decidable flip]
    (hflip : isFlip s.port.orientation v = true ↔ flip) : changeOrientation v s = { s with
      port := { s.port with orientation := v, candidate := v, run := 0 }
      sounding := { s.sounding with
        obs := s.sounding.obs.map fun o =>
          if s.now < o.firstSample then { o with noted := v }
          else if flip ∧ o.noted = s.port.orientation then { o with flipped := true }
          else o
        ownDepth := if flip then none else s.sounding.ownDepth
        ownQuality := if flip then 0 else s.sounding.ownQuality
        senseFault := if flip then faultWithoutMerge s s.now else s.sounding.senseFault }
      roster := { s.roster with
        entries := if flip then s.roster.entries.map fun e => { e with
            shared := none, through := none, quality := 0, relation := .unmeasured }
          else s.roster.entries } } := by
  have hturned : (fun o : Observation => o.turned s.now s.port.orientation v) = fun o =>
      if s.now < o.firstSample then { o with noted := v }
      else if flip ∧ o.noted = s.port.orientation then { o with flipped := true }
      else o := by
    funext o
    simp only [Observation.turned, hflip]
  by_cases h : flip
  · simp only [changeOrientation, hturned, hflip, h, if_true, clearFigures_eq, dropOwnMerge_turned]
  · simp only [changeOrientation, hturned, hflip, h, if_false]

/-- Settles O39: the five clauses are the branches of a reading. -/
theorem thirdReadingTurnsOrientation : Obligations.ThirdReadingTurnsOrientation := by
  intro s t reading v hrun formed
  refine ⟨fun h => ?_, fun hclosed hsecond hvalue => ?_⟩
  · exact answers_running (s := s) (takeReading_unformed (s := s.advance t) h) hrun rfl
  have hx := takeReading_formed (s := s.advance t) hclosed hsecond (readingValue_eq hvalue)
  refine ⟨fun hv => ?_, fun hnew hother => ?_, fun hnew hsame hfew => ?_, fun hnew hsame hthird => ?_⟩
  · rw [actOnReading_agrees (s := noteReading (s.advance t)) hv] at hx
    exact answers_running (s := s) hx hrun rfl
  · rw [actOnReading_begins (s := noteReading (s.advance t)) hnew hother] at hx
    exact answers_running (s := s) hx hrun rfl
  · rw [actOnReading_counts (s := noteReading (s.advance t)) hnew hsame hfew] at hx
    exact answers_running (s := s) hx hrun rfl
  · intro flip
    rw [actOnReading_turns (s := noteReading (s.advance t)) hnew hsame hthird,
      changeOrientation_eq v (noteReading (s.advance t)) flip (isFlip_iff _ _)] at hx
    subst hsame
    exact answers_running (s := s) hx hrun rfl

/-! ### A tick with a reading (R98, R176) -/

/-- The station with another head, sender, scheduler and LED block: what a reading neither reads nor writes. -/
def State.besideReading (s : State) (head : Head) (sender : LineSender) (sched : Scheduler) (led : Indicator) : State :=
  { s with head := head, sender := sender, sched := sched, indicator := led }

theorem changeOrientation_beside (v : Orientation) (s : State) (head : Head) (sender : LineSender) (sched : Scheduler)
    (led : Indicator) : changeOrientation v (s.besideReading head sender sched led) =
      (changeOrientation v s).besideReading head sender sched led := by
  rw [changeOrientation_eq v s _ Iff.rfl]
  exact changeOrientation_eq v _ _ Iff.rfl

theorem takeReading_beside (reading : Int) (s : State) (head : Head) (sender : LineSender) (sched : Scheduler)
    (led : Indicator) : takeReading reading (s.besideReading head sender sched led) =
      (takeReading reading s).besideReading head sender sched led := by
  have hite (p : Prop) [Decidable p] (x y : State) : (if p then x else y).besideReading head sender sched led =
      if p then x.besideReading head sender sched led else y.besideReading head sender sched led :=
    apply_ite (State.besideReading · head sender sched led) p x y
  have hturns := changeOrientation_beside (readingValue reading) (noteReading s) head sender sched led
  simp only [takeReading, actOnReading, hite, ← hturns]
  rfl

theorem takeReading_conflict (reading : Int) (s : State) :
    (takeReading reading s).roster.conflict = s.roster.conflict := by
  unfold takeReading actOnReading
  (repeat' split) <;> simp [changeOrientation_eq _ _ _ Iff.rfl, noteReading]

/-- The identity reading as a head event writes the head, the sender and the scheduler, and reads no more than these, the
moment and the lockout. -/
theorem headEvent_readIdentity (code : Nat) {x y : State} (hnow : y.now = x.now) (hhead : y.head = x.head)
    (hsender : y.sender = x.sender) (hsched : y.sched = x.sched) (hretained : y.retained = x.retained) :
    headEvent (readIdentity code) y = y.besideReading (headEvent (readIdentity code) x).head
      (headEvent (readIdentity code) x).sender (headEvent (readIdentity code) x).sched y.indicator := by
  obtain ⟨hpresence, hschedAfter⟩ := afterRoutine_congr hsender hsched hretained
  rw [headEvent_withHead (readIdentity_eq code x), headEvent_withHead (readIdentity_eq code y), hpresence, hschedAfter,
    hhead, hnow, hsender]
  split
  · exact congr (congrArg (fun a b => y.besideReading _ a b y.indicator) hsender) hsched
  · rfl

/-- After a tick at `d` the station has reached `d` and still runs. -/
theorem ticked_settled (s : State) (d code : Nat) :
    let v := (headEvent (readIdentity code) (ageRoster (countSecond (s.advance d)))).refreshIndicator
    v.advance d = v ∧ v.supply.phase = s.supply.phase := by
  intro v
  have hbeside := headEvent_readIdentity code (x := ageRoster (countSecond (s.advance d))) rfl rfl rfl rfl rfl
  have hlate : max v.now d = v.now := by
    simp only [v]
    rw [hbeside]
    simp [State.besideReading, State.advance]
  have hsupply : v.supply = (countSecond (s.advance d)).supply := by
    simp only [v]
    rw [hbeside]
    simp [State.besideReading]
  exact ⟨by rw [State.advance, hlate], by rw [hsupply]; rfl⟩

/-- Settles O40: the head event and the reading touch different parts, so their order and the LED block's two updates at
one moment do not show. -/
theorem tickReadingActsAsOrientationChange : Obligations.TickReadingActsAsOrientationChange := by
  intro s d reading code hrun hat
  let aged := ageRoster (countSecond (s.advance d))
  let ticked := headEvent (readIdentity code.toNat) aged
  let both := headEvent (readIdentity code.toNat) (takeReading reading aged)
  have hticked : ticked = aged.besideReading ticked.head ticked.sender ticked.sched aged.indicator :=
    headEvent_readIdentity code.toNat rfl rfl rfl rfl rfl
  have hboth : both = (takeReading reading aged).besideReading ticked.head ticked.sender ticked.sched aged.indicator := by
    have h := headEvent_readIdentity code.toNat (x := aged) (y := takeReading reading aged) (by simp) (by simp) (by simp)
      (by simp) (by simp)
    rwa [show (takeReading reading aged).indicator = aged.indicator by simp] at h
  have hv : ticked.refreshIndicator =
      aged.besideReading ticked.head ticked.sender ticked.sched ticked.refreshIndicator.indicator := by
    rw [refreshIndicator_eq, hticked]
    rfl
  have hread : takeReading reading ticked.refreshIndicator =
      { both with indicator := ticked.refreshIndicator.indicator } := by
    rw [hv, takeReading_beside, hboth]
    rfl
  have hlast : State.refreshIndicator { both with indicator := ticked.refreshIndicator.indicator } =
      both.refreshIndicator := by
    refine refreshIndicator_twice ?_ ?_ ?_
    · rw [hboth, hticked]; rfl
    · rw [hboth, hticked]; simp [State.besideReading]
    · rw [hboth, hticked]
      exact firstCondition_congr (by simp [State.besideReading]) (by simp [State.besideReading]) rfl
        (by simp [State.besideReading]) rfl (takeReading_conflict _ _) (by simp [State.besideReading])
  obtain ⟨hstays, hrunning⟩ := ticked_settled s d code.toNat
  refine ⟨ticked.refreshIndicator, both.refreshIndicator, exec_secondTick hrun hat rfl, ?_, exec_secondTick hrun hat rfl⟩
  rw [← hlast, ← hread]
  refine congrArg done ?_
  rw [hstays, whenRunning_running _ _ (hrunning.trans hrun)]

/-! ### An entry at its thresholds (R75, R76, R78) -/

/-- An entry at its STALE threshold is replaced in its place (R75). -/
theorem staleEntry_eq {e : Entry} (hfind : s.roster.find e.serial = some e) (hlive : e.state = .live)
    (hage : 2 * e.interval + 10 ≤ e.age) : staleEntry e.serial s =
      evaluateConflict (s.withEntries (replaceEntry { e with state := .stale } s.roster.entries)) := by
  have hsettled : e.settleState = { e with state := .stale } := if_pos ⟨hlive, hage⟩
  simp only [staleEntry, hfind, hsettled]

/-- An entry at its removal threshold leaves (R76, R78). -/
theorem removeEntry_eq {e : Entry} (hfind : s.roster.find e.serial = some e) (hage : 8 * e.interval ≤ e.age) :
    removeEntry e.serial s = evaluateConflict { s with roster := { s.roster with
      entries := dropSerial e.serial s.roster.entries
      full := if s.roster.entries.length = 250 then false else s.roster.full } } := by
  have hgone : e.kept = false := decide_eq_false (Nat.not_lt.2 hage)
  have hfewer : s.roster.entries.length = 250 → (dropSerial e.serial s.roster.entries).length < 250 := by
    intro hfull
    rw [← hfull]
    exact length_drop_lt (find_mem hfind)
  have hcleared : (s.roster.entries.length = 250 ∧ (dropSerial e.serial s.roster.entries).length < 250) ↔
      s.roster.entries.length = 250 := and_iff_left_of_imp hfewer
  simp only [removeEntry, hfind, hgone, afterRemoval, Config.rosterCapacity, hcleared]
  rfl

/-- Settles O41. -/
theorem silentEntryGoesStaleAndLeaves : Obligations.SilentEntryGoesStaleAndLeaves := by
  intro s e hrun hfind
  refine ⟨fun hlive hage => ?_, fun hage => ?_⟩
  · have hasked := evaluateConflict_asked (s.withEntries (replaceEntry { e with state := .stale } s.roster.entries))
    have hx := staleEntry_eq hfind hlive hage
    obtain ⟨hsame, hother⟩ := find_withReplaced (s := s) (e := { e with state := .stale }) hfind
    rw [evaluateConflict_eq] at hx hasked
    obtain ⟨u, hu, hled, heq⟩ := answers_running (s := s) hx hrun rfl
    have hentries : u.roster.entries = replaceEntry { e with state := .stale } s.roster.entries := by rw [heq]; rfl
    refine ⟨u, hu, hled, asked_congr _ _ _ hasked (by rw [heq]) (by rw [heq]) (by rw [heq]), ?_, fun x hx => ?_, ?_⟩
    · rw [find_def, hentries]; exact hsame
    · rw [find_def, hentries]; exact hother x hx
    · rw [heq]; rfl
  · have hx := removeEntry_eq hfind hage
    have hasked := evaluateConflict_asked { s with roster := { s.roster with
      entries := dropSerial e.serial s.roster.entries
      full := if s.roster.entries.length = 250 then false else s.roster.full } }
    rw [evaluateConflict_eq] at hx hasked
    obtain ⟨u, hu, hled, heq⟩ := answers_running (s := s) hx hrun rfl
    have hentries : u.roster.entries = dropSerial e.serial s.roster.entries := by rw [heq]
    have hfull : u.roster.full = if s.roster.entries.length = 250 then false else s.roster.full := by rw [heq]
    refine ⟨u, hu, hled, asked_congr _ _ _ hasked (by rw [heq]) (by rw [heq]) (by rw [heq]), ?_, fun x hx => ?_,
      fun h => hfull.trans (if_pos h), fun h => hfull.trans (if_neg h), by rw [heq], by rw [heq]⟩
    · rw [find_def, hentries]; exact find_drop_same _ _
    · rw [find_def, hentries]; exact find_drop_other _ _ _ hx

/-! ### The presence timer and the end of quiet (R114, R120, R121) -/

/-- Settles O42. -/
theorem presenceFallsDueAndQuietEnds : Obligations.PresenceFallsDueAndQuietEnds := by
  intro s d hrun
  refine ⟨fun hat hquiet => ?_, fun hat hquiet => ?_, fun hat => ?_⟩
  · have hx : (fun s => onExpiry s.sched.timer presenceDue s) s = { s.advance d with
        sender := { s.sender with presence := slotAfterFill s .presence }
        sched := { s.sched with timer := none } } := by
      simp only [hat, onExpiry_some]
      simp [presenceDue, State.quietHolds, State.advance, hquiet, routineRequest_eq, presenceAfterRoutine, schedAfterRoutine]
      rfl
    exact answers_running (s := s) hx hrun rfl
  · have hx : (fun s => onExpiry s.sched.timer presenceDue s) s = { s.advance d with
        sched := { s.sched with timer := none, deferred := true } } := by
      simp only [hat, onExpiry_some]
      simp [presenceDue, State.quietHolds, State.advance, Option.isSome_iff_ne_none, hquiet, defer]
    exact answers_running (s := s) hx hrun rfl
  · have hx : (fun s => onExpiry s.sched.quietUntil endQuiet s) s = endQuiet (s.advance d) := by
      simp only [hat, onExpiry_some]
    rw [endQuiet_eq] at hx
    exact answers_running (s := s) hx hrun rfl

end Sys2Proof.Machine
end

section
/-! SUPPORT. The head supervisor's commands (07): the alarm line, the timers, a confirmed alarm, STUCK, and the identity. -/

namespace Sys2Proof.Machine

variable {s : State}

/-! ### The alarm line (R125, R130, R131) -/

/-- An assertion that is seen in READY begins CONFIRMING (R130). -/
theorem assertAlarm_ready (h : s.alarmTurnsTo true = true) (hready : s.head.state = .ready) : assertAlarm s =
    s.withHead { s.head with
      alarm := true, alarmFrom := s.now, state := .confirming, timer := some (s.now + 2000000) } := by
  rw [assertAlarm, if_pos h, if_pos hready]
  rfl

theorem assertAlarm_noted (h : s.alarmTurnsTo true = true) (hready : s.head.state ≠ .ready) : assertAlarm s =
    s.withHead { s.head with alarm := true, alarmFrom := s.now } := by
  rw [assertAlarm, if_pos h, if_neg hready]
  rfl

/-- A release that is seen in CONFIRMING goes back to READY (R131). -/
theorem releaseAlarm_confirming (h : s.alarmTurnsTo false = true) (hconfirming : s.head.state = .confirming) :
    releaseAlarm s = s.withHead { s.head with alarm := false, alarmFrom := s.now, state := .ready, timer := none } := by
  rw [releaseAlarm, if_pos h]
  exact if_pos hconfirming

theorem releaseAlarm_noted (h : s.alarmTurnsTo false = true) (hconfirming : s.head.state ≠ .confirming) :
    releaseAlarm s = s.withHead { s.head with alarm := false, alarmFrom := s.now } := by
  rw [releaseAlarm, if_pos h]
  exact if_neg hconfirming

/-- An edge that is not seen is no event (R125). -/
theorem headEvent_nothing {f : State → State} (hf : f s = s) : headEvent f s = s := by
  simp [headEvent, hf]

/-- Settles O43. -/
theorem alarmEdgesMoveHead : Obligations.AlarmEdgesMoveHead := by
  intro s t hrun m
  have hseen (level : Bool) (hsupply : s.head.supply = true) (halarm : s.head.alarm = !level)
      (hfilter : AlarmFiltered s m) : (s.advance t).alarmTurnsTo level = true :=
    (alarmTurnsTo_iff _ level).2 ⟨hsupply, halarm, hfilter⟩
  have hunseen (level : Bool) (h : s.head.supply = false ∨ s.head.alarm = level ∨ ¬AlarmFiltered s m) :
      (s.advance t).alarmTurnsTo level = false := (alarmTurnsTo_false_iff _ level).2 h
  refine ⟨fun hsupply halarm hfilter hready => ?_, fun hsupply halarm hfilter hready => ?_, fun h => ?_,
    fun hsupply halarm hfilter hconfirming => ?_, fun hsupply halarm hfilter hconfirming => ?_, fun h => ?_⟩
  · have hx := assertAlarm_ready (hseen true hsupply halarm hfilter) hready
    exact answers_running (s := s) (headEvent_moved hx fun h => nomatch h.trans hready) hrun rfl
  · have hx := assertAlarm_noted (hseen true hsupply halarm hfilter) hready
    exact answers_running (s := s) (headEvent_unmoved hx ⟨rfl, rfl⟩) hrun rfl
  · have hx := assertAlarm_unseen (s.advance t) (hunseen true h)
    exact answers_running (s := s) (headEvent_nothing hx) hrun rfl
  · have hx := releaseAlarm_confirming (hseen false hsupply halarm hfilter) hconfirming
    exact answers_running (s := s) (headEvent_moved hx fun h => nomatch h.trans hconfirming) hrun rfl
  · have hx := releaseAlarm_noted (hseen false hsupply halarm hfilter) hconfirming
    exact answers_running (s := s) (headEvent_unmoved hx ⟨rfl, rfl⟩) hrun rfl
  · have hx := releaseAlarm_unseen (s.advance t) (hunseen false h)
    exact answers_running (s := s) (headEvent_nothing hx) hrun rfl

/-! ### The timers of the head (R129, R133, R134) -/

/-- A head timer that runs out in its state is an event of the head. -/
theorem onHeadTimer_due {state : HeadState} {f : State → State} {d : Nat} (hstate : s.head.state = state)
    (htimer : s.head.timer = some d) : onHeadTimer state f s = headEvent f (s.advance d) := by
  rw [onHeadTimer, if_pos hstate, htimer, onExpiry_some]

/-- The end of a head timer that moves the head's state. -/
theorem onHeadTimer_moved {state : HeadState} {f : State → State} {d : Nat} {h : Head} (hstate : s.head.state = state)
    (htimer : s.head.timer = some d) (hf : f (s.advance d) = (s.advance d).withHead h) (hmoved : h.state ≠ state) :
    onHeadTimer state f s = { s.advance d with
      head := h
      sender := { s.sender with presence := presenceAfterRoutine s }
      sched := schedAfterRoutine s } := by
  rw [onHeadTimer_due hstate htimer]
  exact headEvent_moved hf fun h => hmoved (h.trans hstate)

/-- Settles O44. -/
theorem headTimersMoveHead : Obligations.HeadTimersMoveHead := by
  intro s d hrun htimer m asked
  refine ⟨fun hstate halarm => ?_, fun hstate halarm => ?_, fun hstate => ?_, fun hstate halarm => ?_,
    fun hstate halarm hcycles => ?_⟩
  · have hready : enterReady (s.advance d) = (s.advance d).withHead { s.head with state := .ready, timer := none } :=
      if_neg (by simp [State.advance, halarm])
    exact answers_running (s := s) (onHeadTimer_moved hstate htimer hready (by simp)) hrun rfl
  · have hconfirming : enterReady (s.advance d) = beginConfirm (s.advance d) := if_pos halarm
    exact answers_running (s := s) (onHeadTimer_moved hstate htimer hconfirming (by simp)) hrun rfl
  · exact answers_running (s := s) (onHeadTimer_moved (f := endResetting) hstate htimer rfl (by simp)) hrun rfl
  · have hready : endRecovering (s.advance d) =
        (s.advance d).withHead { s.head with cycles := 0, state := .ready, timer := none } := if_pos halarm
    exact answers_running (s := s) (onHeadTimer_moved hstate htimer hready (by simp)) hrun rfl
  · have hagain : endRecovering (s.advance d) = beginReset (s.head.cycles + 1) (s.advance d) := by
      rw [endRecovering, if_neg (by simp [State.advance, halarm])]
      exact if_pos hcycles
    exact answers_running (s := s) (onHeadTimer_moved hstate htimer hagain (by simp)) hrun rfl

/-! ### A confirmed alarm and STUCK (R132, R135, R138, R139) -/

/-- The announcement of an event: the last test event, an own journal entry, a fill request to the TEST slot. -/
theorem announce_eq {kind : TestKind} {number : Nat} {type : HeadType} (hnumber : s.head.record.number = some number)
    (htype : s.head.record.type = some type) : announce kind s = { s with
      head := { s.head with
        lastEvent := some { kind := kind, number := number, type := type, uptime := s.supply.uptime } }
      journal := journalAfter s.journal {
        heardAt := s.supply.uptime, serial := s.settings.serial, address := s.settings.address, kind := kind
        number := number, typeTested := type, source := .own }
      sender := { s.sender with test := slotAfterFill s .test } } := by
  simp only [announce, eventOf, hnumber, htype, fillSlot_eq, writeJournal, write_eq]
  rfl

/-- The record and the kind of a confirmed alarm (R138). -/
theorem recordOnConfirm_eq {r : TestRecord} {type : HeadType} {number : Nat} {kind : TestKind}
    (h : (r.state = .notTested ∧ number = 1 ∧ kind = .pass) ∨ (r.state ≠ .notTested ∧ kind = .repeatPass ∧
      ∃ n, r.number = some n ∧ number = if n < 255 then n + 1 else n)) :
    recordOnConfirm r (some type) = { state := .passed, number := some number, type := some type } ∧
      confirmKind r = kind := by
  unfold recordOnConfirm confirmKind
  obtain ⟨hstate, rfl, rfl⟩ | ⟨hstate, rfl, n, hn, rfl⟩ := h
  · rw [hstate]; exact ⟨rfl, rfl⟩
  · cases hs : r.state with
    | notTested => exact absurd hs hstate
    | passed => rw [hn]; exact ⟨rfl, rfl⟩
    | stuck => rw [hn]; exact ⟨rfl, rfl⟩

/-- A head event that also writes elsewhere, and moves the head's state. -/
theorem headEvent_request {f : State → State} (hmoved : (f s).head.state ≠ s.head.state) : headEvent f s =
    { f s with
      sender := { (f s).sender with presence := presenceAfterRoutine (f s) }
      sched := schedAfterRoutine (f s) } := by
  rw [headEvent, if_neg fun hsame => hmoved hsame.1, routineRequest_eq]

/-- A confirmed alarm, whose record becomes that of `number` and `type` (R132). -/
theorem confirmAlarm_eq {kind : TestKind} {number : Nat} {type : HeadType}
    (htype : s.head.headType = some type)
    (hrecord : recordOnConfirm s.head.record (some type) =
      { state := .passed, number := some number, type := some type })
    (hkind : confirmKind s.head.record = kind) : confirmAlarm s = { s with
      head := { s.head with
        record := { state := .passed, number := some number, type := some type }
        lastEvent := some { kind := kind, number := number, type := type, uptime := s.supply.uptime }
        testedLatch := some (s.now + 30000000)
        cycles := 0
        supply := false
        alarm := false
        state := .resetting
        timer := some (s.now + 1000000) }
      journal := journalAfter s.journal {
        heardAt := s.supply.uptime, serial := s.settings.serial, address := s.settings.address, kind := kind
        number := number, typeTested := type, source := .own }
      sender := { s.sender with test := slotAfterFill s .test } } := by
  simp only [confirmAlarm, htype, hrecord, hkind]
  rw [announce_eq (number := number) (type := type) rfl rfl, ← htype]
  rfl

/-- Settles O45. -/
theorem confirmedAlarmRecorded : Obligations.ConfirmedAlarmRecorded := by
  intro s d type number kind hrun hstate htimer halarm htype hrecord m
  obtain ⟨hafter, hkind⟩ := recordOnConfirm_eq (type := type) hrecord
  have hconfirm := confirmAlarm_eq (s := s.advance d) htype hafter hkind
  have hx : (fun s => if s.head.alarm = true then onHeadTimer .confirming confirmAlarm s else s) s =
      headEvent confirmAlarm (s.advance d) := by
    simp only [halarm, if_true, onHeadTimer_due hstate htimer]
  rw [headEvent_request (by rw [hconfirm]; exact fun h => nomatch h.trans hstate), hconfirm] at hx
  exact answers_running (s := s) hx hrun rfl

/-- The head declared STUCK, with number and type kept (R135). -/
theorem declareStuck_eq {number : Nat} {type : HeadType} (hnumber : s.head.record.number = some number)
    (htype : s.head.record.type = some type) : declareStuck s = { s with
      head := { s.head with
        cycles := 3
        state := .stuck
        timer := none
        record := { state := .stuck, number := some number, type := some type }
        lastEvent := some { kind := .stuck, number := number, type := type, uptime := s.supply.uptime } }
      journal := journalAfter s.journal {
        heardAt := s.supply.uptime, serial := s.settings.serial, address := s.settings.address, kind := .stuck
        number := number, typeTested := type, source := .own }
      sender := { s.sender with test := slotAfterFill s .test } } := by
  have hannounce := announce_eq (kind := .stuck) (s := s.withHead { s.head with
    cycles := 3, state := .stuck, timer := none, record := { s.head.record with state := .stuck } }) hnumber htype
  refine hannounce.trans ?_
  rw [← hnumber, ← htype]
  rfl

/-- Settles O46. -/
theorem thirdCycleDeclaresStuck : Obligations.ThirdCycleDeclaresStuck := by
  intro s d type number hrun hstate htimer halarm hcycles hnumber htype
  have hstuck : endRecovering (s.advance d) = declareStuck (s.advance d) := by
    rw [endRecovering, if_neg (by simp [State.advance, halarm]),
      if_neg (by simp [State.advance, hcycles, Config.stuckCycles])]
  rw [declareStuck_eq (s := s.advance d) hnumber htype] at hstuck
  have hx := onHeadTimer_due (f := endRecovering) hstate htimer
  rw [headEvent_request (by rw [hstuck]; exact fun h => nomatch h.trans hstate), hstuck] at hx
  exact answers_running (s := s) hx hrun rfl

/-! ### The identity (R127, R128, R136, R137) -/

/-- What the head event of a tick leaves in the sender and the scheduler, after the request `x` may have made on a change of
CONFLICT (R82, R141). -/
theorem tick_asks {x : State} {code : Nat} (hasked : AskedOnConflictChange s x) (hretained : x.retained = s.retained)
    (hhead : x.head = s.head) :
    let a : State := if x.roster.conflict.isSome = s.roster.conflict.isSome then s
      else { s with sender := { s.sender with presence := presenceAfterRoutine s }, sched := schedAfterRoutine s }
    let u := headEvent (readIdentity code) x
    if u.head.state = s.head.state ∧ u.head.record.state = s.head.record.state then
      u.sender = a.sender ∧ u.sched = a.sched
    else u.sender = { a.sender with presence := presenceAfterRoutine a } ∧ u.sched = schedAfterRoutine a := by
  intro a u
  have ha : x.sender = a.sender ∧ x.sched = a.sched ∧ x.retained = a.retained := by
    unfold AskedOnConflictChange at hasked
    simp only [a]
    split at hasked <;> rename_i hshown <;> obtain ⟨hsender, hsched⟩ := hasked
    · rw [if_pos hshown]
      exact ⟨hsender, hsched, hretained⟩
    · rw [if_neg hshown]
      exact ⟨hsender, hsched, hretained⟩
  obtain ⟨hsender, hsched, hlockout⟩ := ha
  obtain ⟨hpresence, hafter⟩ := afterRoutine_congr hsender hsched hlockout
  have hu := headEvent_withHead (readIdentity_eq code x)
  rw [hpresence, hafter, hsender, hhead] at hu
  by_cases hsame : (headAfterReading (identityValue code) x.now s.head).state = s.head.state ∧
      (headAfterReading (identityValue code) x.now s.head).record.state = s.head.record.state
  · rw [if_pos hsame] at hu
    have hu' : u = x.withHead (headAfterReading (identityValue code) x.now s.head) := hu
    rw [hu']
    exact (if_pos hsame).mpr ⟨hsender, hsched⟩
  · rw [if_neg hsame] at hu
    have hu' : u = _ := hu
    rw [hu']
    exact (if_neg hsame).mpr ⟨rfl, rfl⟩

/-- What the tick leaves in the head. -/
theorem tick_head (code : Nat) (x : State) :
    (headEvent (readIdentity code) x).head = headAfterReading (identityValue code) x.now x.head := by
  rw [headEvent_withHead (readIdentity_eq code x)]
  split <;> rfl

/-- Settles O47: the tick ages the roster, reads the identity, and asks for a PRESENCE for each that changed. -/
theorem secondIdentityReadingMovesHead : Obligations.SecondIdentityReadingMovesHead := by
  intro s d code value hrun hat hcode hnew m told
  let aged := ageRoster (countSecond (s.advance d))
  let ticked := headEvent (readIdentity code.toNat) aged
  obtain ⟨hasked, haged⟩ := ageRoster_tick s d
  have hretained : aged.retained = s.retained := by simp [aged, State.advance]
  have hhead : aged.head = s.head := by simp [aged]
  have hnow : aged.now = m := by simp [aged, State.advance, m]
  have hbeside : ticked = aged.besideReading ticked.head ticked.sender ticked.sched aged.indicator :=
    headEvent_readIdentity code.toNat rfl rfl rfl rfl rfl
  have hticked : ticked.head = headAfterReading value m s.head := by
    rw [tick_head, hnow, hhead, identityValue_of hcode]
  have hanswer : ∃ u, exec (.secondTick none code) s = .next u ∧ LedFollows s u ∧ told u ∧
      u = afterTick s m (headAfterReading value m s.head) u := by
    have hexec := exec_secondTick hrun hat (secondTick_none code (s.advance d))
    obtain ⟨u, hu, hled, heq⟩ := answers_done (x := ticked) hexec (by rw [hbeside]; simp [State.besideReading, aged])
    have htold := tick_asks (code := code.toNat) hasked hretained hhead
    have hroster : ticked.roster = aged.roster := by rw [hbeside]; rfl
    refine ⟨u, hu, hled, ?_, ?_⟩
    · rw [heq]
      simp only [told, hroster]
      exact htold
    · rw [heq, ← hticked, hbeside, show aged = afterTick s m s.head aged from haged]
      rfl
  refine ⟨fun honce => ?_, fun type hagain hvalue => ?_, fun lost hagain hlost => ?_⟩
  · rwa [headAfterReading_once _ (.inr honce)] at hanswer
  · rw [headAfterReading_again _ hnew hagain] at hanswer
    subst hvalue
    exact hanswer
  · rw [headAfterReading_again _ hnew hagain] at hanswer
    rcases hlost with ⟨rfl, rfl⟩ | ⟨rfl, rfl⟩
    · exact hanswer
    · exact hanswer

end Sys2Proof.Machine
end

section
/-! SUPPORT. Isolator, supply bands, reset and starts (10). -/

namespace Sys2Proof.Machine

variable {s : State}

/-! ### The isolator (R163 to R168) -/

/-- The short criterion (R163). -/
theorem shortCriterion_iff (orientation : Orientation) (a b through : Int) :
    shortCriterion orientation ⟨a, b⟩ through = true ↔ 35000 < through.natAbs ∨
      (orientation = .feedA ∧ b < 8000 ∧ 14000 ≤ a) ∨ (orientation = .feedB ∧ a < 8000 ∧ 14000 ≤ b) ∨
      (orientation = .unknown ∧ ((a < 8000 ∧ 14000 ≤ b) ∨ (b < 8000 ∧ 14000 ≤ a))) := by
  cases orientation <;>
    simp [shortCriterion, farSideFallen, Config.shortThrough, Config.shortFarBelow, Config.shortFeedAtLeast]

/-- CLOSED: the isolator opens (R164). -/
theorem openIsolator_eq (r : TailReadings) (s : State) : openIsolator r s = { s with
    isolator := { s.isolator with state := .openWait, timer := some (s.now + 10000000) }
    port := { s.port with run := 0 }
    rx := { s.rx with underWay := s.rx.underWay.map fun f => { f with crossings := f.crossings ++ [s.now] } }
    sounding := match s.sounding.obs with
      | none => s.sounding
      | some o => soundingCut s.sounding o r s.now
    sender := { s.sender with presence := presenceAfterRoutine s }
    sched := schedAfterRoutine s } := by
  simp only [openIsolator, abandon_eq, routineRequest_eq]
  rfl

theorem closeIsolator_eq (s : State) : closeIsolator s = { s with
    isolator := { state := .closed, failed := 0, timer := none }
    port := { s.port with readingsFrom := s.now }
    rx := { s.rx with underWay := s.rx.underWay.map fun f => { f with crossings := f.crossings ++ [s.now] } }
    sender := { s.sender with presence := presenceAfterRoutine s }
    sched := schedAfterRoutine s } := by
  simp only [closeIsolator, routineRequest_eq]
  rfl

/-- A criterion held for 1 ms of a trial fails it (R166). -/
theorem meetShort_held (r : TailReadings) (htrial : s.isolator.state = .trial)
    (hheld : ∀ e, s.isolator.timer = some e → e ≤ s.now + 99000) : meetShort r s = failTrial s := by
  rw [meetShort_trial s r htrial, if_pos ((heldInTrial_iff s).2 hheld)]

/-- Where the criterion is not judged, or has not held for 1 ms of a trial, it does nothing (R163, R166). -/
theorem meetShort_nothing (r : TailReadings) (h : s.isolator.state = .openWait ∨ s.isolator.state = .latched ∨
    (s.isolator.state = .trial ∧ ¬∀ e, s.isolator.timer = some e → e ≤ s.now + 99000)) : meetShort r s = s := by
  obtain hstate | hstate | ⟨hstate, hheld⟩ := h
  · simp [meetShort, hstate]
  · simp [meetShort, hstate]
  · rw [meetShort_trial s r hstate, if_neg fun hlong => hheld ((heldInTrial_iff s).1 hlong)]

/-- Settles O48. -/
theorem shortOpensIsolator : Obligations.ShortOpensIsolator := by
  intro s t a b through r hrun m fallen met
  have hmet : met → (fun s : State => if shortCriterion s.port.orientation ⟨a, b⟩ through = true then meetShort r s else s)
      (s.advance t) = meetShort r (s.advance t) := fun h => if_pos ((shortCriterion_iff s.port.orientation a b through).2 h)
  refine ⟨fun h hclosed => ?_, fun h htrial hheld hfew => ?_, fun h htrial hheld hthird => ?_, fun h => ?_⟩
  · have hopens : meetShort r (s.advance t) = openIsolator r (s.advance t) := by
      simp [meetShort, State.advance, hclosed]
    exact answers_running (s := s) ((hmet h).trans (hopens.trans (openIsolator_eq r _))) hrun rfl
  · have hx := (hmet h).trans (meetShort_held (s := s.advance t) r htrial hheld)
    have hfails : failTrial (s.advance t) = _ := if_pos hfew
    exact answers_running (s := s) (hx.trans hfails) hrun rfl
  · have hx := (hmet h).trans (meetShort_held (s := s.advance t) r htrial hheld)
    have hfails : failTrial (s.advance t) = { s.advance t with
        isolator := { state := .latched, failed := 3, timer := none } } := by
      simp [failTrial, State.advance, hthird, Config.latchTrials]
    exact answers_running (s := s) (hx.trans hfails) hrun rfl
  · have hx : (fun s : State => if shortCriterion s.port.orientation ⟨a, b⟩ through = true then meetShort r s else s)
        (s.advance t) = s.advance t := by
      rcases h with hunmet | hstate
      · exact if_neg fun h => hunmet ((shortCriterion_iff s.port.orientation a b through).1 h)
      · simp only [meetShort_nothing (s := s.advance t) r hstate, ite_self]
    exact answers_running (s := s) hx hrun rfl

/-- Settles O49. -/
theorem isolatorTriesAndCloses : Obligations.IsolatorTriesAndCloses := by
  intro s d hrun htimer m
  refine ⟨fun hopen => ?_, fun htrial => ?_⟩
  · have hx : (fun s : State => if s.isolator.state = .openWait then
        onExpiry s.isolator.timer (beginTrial s.isolator.failed) s else s) s =
        beginTrial s.isolator.failed (s.advance d) := by
      simp only [hopen, if_true, htimer, onExpiry_some]
    exact answers_running (s := s) hx hrun rfl
  · have hx : (fun s : State => if s.isolator.state = .trial then onExpiry s.isolator.timer closeIsolator s else s) s =
        closeIsolator (s.advance d) := by
      simp only [htrial, if_true, htimer, onExpiry_some]
    exact answers_running (s := s) (hx.trans (closeIsolator_eq _)) hrun rfl

/-! ### Supply bands and reset (R169 to R172) -/

/-- Settles O50. -/
theorem bandMovesBetweenLowAndNormal : Obligations.BandMovesBetweenLowAndNormal := by
  intro s t mV hawake m
  refine ⟨fun hband hheld hlow hhigh => ?_, fun h => ?_, fun hband hheld hnormal => ?_, fun h => ?_⟩
  · have hx : exec (.bandLow t mV) s = done (noteLow ((s.advance t).withBand .low)) :=
      congrArg done (if_pos ⟨hawake, hband, hheld, hlow, hhigh⟩)
    exact answers_done hx rfl
  · have hx : exec (.bandLow t mV) s = done (s.advance t) := by
      refine congrArg done (if_neg fun ⟨_, hband, hheld, _, hbelow⟩ => ?_)
      have hheld' : s.supply.bandNotBefore ≤ m := hheld
      simp only [Config.lowBelow] at hbelow
      obtain h | h | h := h
      · exact h hband
      · omega
      · omega
    exact answers_done hx rfl
  · have hx : exec (.bandNormal t mV) s = done (noteNormal ((s.advance t).withBand .normal)) :=
      congrArg done (if_pos ⟨hawake, hband, hheld, hnormal⟩)
    exact answers_done hx rfl
  · have hx : exec (.bandNormal t mV) s = done (s.advance t) := by
      refine congrArg done (if_neg fun ⟨_, hband, hheld, hfrom⟩ => ?_)
      have hheld' : s.supply.bandNotBefore ≤ m := hheld
      simp only [Config.normalFrom] at hfrom
      obtain h | h | h := h
      · exact h hband
      · omega
      · omega
    exact answers_done hx rfl

/-- Settles O51: in reset the LED is dark, so the end of the command changes nothing more. -/
theorem criticalHoldsInReset : Obligations.CriticalHoldsInReset := by
  intro s t mV hawake hbelow
  refine ⟨fun hheld => ?_, fun hband hearly => ?_⟩
  · have hx : exec (.bandCritical t mV) s = done (enterReset (s.advance t)) :=
      congrArg done (if_pos ⟨hawake, hheld, hbelow⟩)
    have hdark : (enterReset (s.advance t)).refreshIndicator = enterReset (s.advance t) := if_pos rfl
    exact ⟨_, hx.trans (congrArg Host.Outcome.next hdark), rfl⟩
  · have hx : exec (.bandCritical t mV) s = done (s.advance t) :=
      congrArg done (if_neg fun ⟨_, hheld, _⟩ => Nat.not_le.2 hearly (hheld hband))
    exact answers_done hx rfl

/-- Settles O52. -/
theorem startKindFollowsRetention : Obligations.StartKindFollowsRetention := by
  intro s t mV kept hphase m begun
  refine ⟨fun hheld hvolts hmark hkept => ?_, fun hheld hvolts hlost => ?_, fun h => ?_⟩
  · have hx : exec (.startBegin t mV kept) s = done (startFromCritical kept (s.advance t)) :=
      congrArg done (if_pos ⟨hphase, hheld, hvolts⟩)
    have hkind : startFromCritical kept (s.advance t) = beginStart .brownout (s.advance t) := if_pos ⟨hmark, hkept⟩
    exact answers_done (hx.trans (congrArg done hkind)) rfl
  · have hx : exec (.startBegin t mV kept) s = done (startFromCritical kept (s.advance t)) :=
      congrArg done (if_pos ⟨hphase, hheld, hvolts⟩)
    have hkind : startFromCritical kept (s.advance t) = beginStart .powerOn { s.advance t with
        retained := { mark := true, lockout := false }, port := { s.port with cutoffOpen := false } } :=
      if_neg fun ⟨hmark, hkept⟩ => hlost.elim (fun h => by simp [State.advance, h] at hmark) fun h => by simp [h] at hkept
    exact answers_done (hx.trans (congrArg done hkind)) rfl
  · have hx : exec (.startBegin t mV kept) s = done (s.advance t) := by
      refine congrArg done (if_neg fun ⟨_, hheld, hfrom⟩ => ?_)
      have hheld' : s.supply.bandNotBefore ≤ m := hheld
      simp only [Config.startFrom] at hfrom
      omega
    exact answers_done hx rfl

end Sys2Proof.Machine
end

section
/-! SUPPORT. The start phases (R173 to R175, R182, R183). -/

namespace Sys2Proof.Machine

variable {s : State}

/-- A phase that ends at `d` does what its end does then. -/
theorem onPhaseEnd_due {phase : Phase} {d : Nat} (f : State → State) (hphase : s.supply.phase = phase)
    (htimer : s.supply.phaseTimer = some d) : onPhaseEnd phase f s = f (s.advance d) := by
  rw [onPhaseEnd, if_pos hphase, htimer, onExpiry_some]

/-- The factory area passes with its check and a trim in range (R183). -/
theorem factory_passes_iff (f : FactoryArea) :
    f.passes = true ↔ f.checkOk = true ∧ 9000 ≤ f.trim ∧ f.trim ≤ 11000 := by
  simp [FactoryArea.passes, Config.trimLow, Config.trimHigh]

/-- The settings record passes with its mark, an address in range and its check byte (R182). -/
theorem record_passes_iff (r : SettingsRecord) :
    r.passes = true ↔ r.mark = true ∧ r.address.toNat ≤ 240 ∧
      r.check = ~~~(r.site.extractLsb' 8 8 ^^^ r.site.extractLsb' 0 8 ^^^ r.address) := by
  simp only [SettingsRecord.passes, recordCheck, Config.addressTop, Bool.and_eq_true, beq_iff_eq, decide_eq_true_eq]
  rw [and_assoc]
  exact and_congr_right fun _ => and_comm

/-- The end of LOAD_SETTINGS with an empty roster, in which nothing conflicts. -/
theorem loadSettings_empty (hempty : s.roster.entries = []) : loadSettings s = { s with
    settings := readNv s.settings
    sched := { s.sched with offset := 100000 * (s.settings.factory.serial.toNat % 40) }
    roster := { s.roster with conflict := none }
    supply := { s.supply with
      phase := .selfTest
      phaseTimer := some (s.now + 160000)
      selftestFail := s.supply.selftestFail || !s.settings.factory.passes } } := by
  have hnone : conflictOf (readNv s.settings).address s.roster.entries = none := by
    simp [conflictOf, hempty]
  simp only [loadSettings, hnone]
  rfl

/-- The decoders pass when both give the test frame from the half-cells up to its CHECK (R174). -/
theorem decodersPass_iff (s : State) (h : Heard) : decodersPass s h = true ↔
    decodeChannel ((h.dips.map judgeV).take 120) ((h.dips.map judgeV).take 120) =
      .valid ⟨2, s.settings.serial, [], checkOf 2 s.settings.serial []⟩ ∧
    decodeChannel ((h.through.map (judgeI s.port.orientation)).take 120) ((h.dips.map judgeV).take 120) =
      .valid ⟨2, s.settings.serial, [], checkOf 2 s.settings.serial []⟩ := by
  have hlength : 2 * frameCellCount 0 = 120 := rfl
  have horientation : (testReception s).orientation = s.port.orientation := rfl
  simp only [decodersPass, hlength, heardOnI_unmuted (testReception s) h rfl rfl, heardOnV, testFrame, horientation,
    Bool.and_eq_true, decide_eq_true_eq]

/-- The sampler passes with nothing clipped and both accumulations in the window (R174). -/
theorem samplerPasses_iff (r : TailReadings) : samplerPasses r = true ↔
    ¬SomeClipped (vSamples r) (iSamples .unknown r) ∧
      (7680 ≤ vAccumulation (vSamples r) ∧ vAccumulation (vSamples r) ≤ 8704) ∧
      (7680 ≤ iAccumulation (iSamples .unknown r) ∧ iAccumulation (iSamples .unknown r) ≤ 8704) := by
  rw [← someClipped_iff]
  simp [samplerPasses, inSelfTestWindow, Config.selfTestLow, Config.selfTestHigh, and_assoc]

/-- Settles O53: a clause for each phase. -/
theorem startPhasesLeadToRunning : Obligations.StartPhasesLeadToRunning := by
  intro s d htimer m
  refine ⟨fun hphase => ?_, fun hphase hempty => ?_, fun h r hphase => ?_⟩
  · have hx : exec .clockSettle s = done (enterPhase .loadSettings Config.loadTime (s.advance d)) :=
      congrArg done (onPhaseEnd_due _ hphase htimer)
    exact answers_done hx rfl
  · intro n factoryOk recordOk
    have hx : exec .loadSettings s = done (loadSettings (s.advance d)) :=
      congrArg done (onPhaseEnd_due _ hphase htimer)
    rw [loadSettings_empty (s := s.advance d) hempty] at hx
    obtain ⟨u, hu, hled, heq⟩ := answers_done hx rfl
    have hsettings : u.settings = readNv s.settings := by rw [heq]; rfl
    have hfail : u.supply.selftestFail = (s.supply.selftestFail || !s.settings.factory.passes) := by rw [heq]; rfl
    refine ⟨u, hu, hled, ?_, by rw [hsettings]; rfl, by rw [hsettings]; rfl, by rw [hsettings]; rfl, fun hok => ?_,
      fun hbad => ?_, fun hok => ?_, fun hbad => ?_⟩
    · rw [hsettings, hfail]
      exact heq
    · have hpass := (factory_passes_iff _).2 hok
      simp [hsettings, hfail, readNv, hpass, n]
    · have hpass := mt (factory_passes_iff _).1 hbad
      simp [hsettings, hfail, readNv, hpass, n, Config.nominalTrim]
    · have hpass := (record_passes_iff _).2 hok
      simp [hsettings, readNv, hpass, n]
    · have hpass := mt (record_passes_iff _).1 hbad
      simp [hsettings, readNv, hpass, n]
  · have hx : exec (.selfTest h r) s = done (endSelfTest h r (s.advance d)) :=
      congrArg done (onPhaseEnd_due _ hphase htimer)
    obtain ⟨u, hu, hled, heq⟩ := answers_done hx rfl
    have hfail : u.supply.selftestFail =
        (s.supply.selftestFail || !(decodersPass (s.advance d) h && samplerPasses r)) := by rw [heq]; rfl
    refine ⟨u, hu, hled, ?_, fun hset => by rw [hfail, hset, Bool.true_or], fun hclear => ?_⟩
    · rw [hfail]
      exact heq
    · rw [hfail, hclear, Bool.false_or, Bool.not_eq_false', Bool.and_eq_true, decodersPass_iff, samplerPasses_iff]
      rfl

end Sys2Proof.Machine
end

section
/-! SUPPORT. IR words and their keys (R177 to R180). -/

namespace Sys2Proof.Machine

variable {s : State}

/-! ### The judgement of a word (R177, R178) -/

theorem isRepeat_iff (w : IrWord) : isRepeat s w = true ↔ WordContinues s s.now w := by
  unfold isRepeat WordContinues irToggle Config.repeatGap
  cases s.ir.lastValid <;> simp

theorem irCheckOk_iff (w : IrWord) : irCheckOk w = true ↔
    w.extractLsb' 0 8 = ~~~(w.extractLsb' 24 8 ^^^ w.extractLsb' 16 8 ^^^ w.extractLsb' 8 8) := beq_iff_eq

/-- A word that passes the four steps is a repeat or an accepted key. -/
theorem judgeWord_passes {w : IrWord} (h : WordPasses s w) :
    judgeWord s w = if isRepeat s w = true then .repeated (irKey w) else .accepted (irKey w) := by
  obtain ⟨hmode, hcheck, hsite, hkey⟩ := h
  have hcheck' := (irCheckOk_iff w).2 hcheck
  have hsite' : ¬(s.settings.site ≠ 0 ∧ irSite w ≠ s.settings.site) := fun ⟨hstored, hother⟩ =>
    hsite.elim hstored hother
  have hkey' : ¬15 < irKey w := Nat.not_lt.2 hkey
  simp only [judgeWord, hmode, hcheck', hsite', hkey', if_false]
  rfl

theorem judgeWord_accepted {w : IrWord} {key : Nat} (h : AcceptedKey s s.now w key) : judgeWord s w = .accepted key := by
  obtain ⟨hpasses, hnew, rfl⟩ := h
  rw [judgeWord_passes hpasses, if_neg (mt (isRepeat_iff w).1 hnew)]
  rfl

theorem judgeWord_repeated {w : IrWord} {key : Nat} (h : RepeatedKey s s.now w key) : judgeWord s w = .repeated key := by
  obtain ⟨hpasses, hagain, rfl⟩ := h
  rw [judgeWord_passes hpasses, if_pos ((isRepeat_iff w).2 hagain)]
  rfl

/-! ### An accepted key (R178, R180) -/

/-- The station as a press begins: the three flags clear, the key not yet acted on (R178). -/
def State.pressed (s : State) (key : Nat) : State :=
  s.withIr { s.ir with
    press := some { key := key, since := s.now }, checkError := false, siteMismatch := false, overflow := false }

/-- What an accepted key leaves: what its act makes of the pressed station, with the entry timer as the entry state has it
and the word remembered. -/
theorem onAccepted_acts {wanted : Nat → Bool} {act : State → State} {w : IrWord} {key : Nat} {x : State}
    (h : AcceptedKey s s.now w key) (hwanted : wanted key = true) (hact : act (s.pressed (irKey w)) = x)
    (hnow : x.now = s.now) :
    onAccepted wanted w act s = x.withIr { x.ir with
      entryTimer := if x.ir.mode = .entering then some (s.now + 10000000) else none
      lastValid := some { toggle := w.getLsbD 15, arrived := s.now } } := by
  have hkey : irKey w = key := h.2.2
  rw [← hnow, onAccepted, judgeWord_accepted h, ← hact, hkey]
  simp only [hwanted, if_true]
  rfl

/-- A key whose act gives a feedback. -/
theorem answers_feedback {f : State → State} {now x : State} {kind : FeedbackKind} (hx : f now = giveFeedback kind x)
    (hrun : now.supply.phase = .running) (hled : x.indicator = s.indicator) :
    ∃ u, done (whenRunning f now) = .next u ∧ u = { x with indicator := u.indicator } ∧
      u.indicator.feedback = some { kind := kind, endsAt := x.now + kind.length } ∧
      u.indicator.identify = s.indicator.identify := by
  rw [whenRunning_running now f hrun, hx]
  have hfollows := ledFollows_refresh (giveFeedback kind x) (giveFeedback kind x) rfl
  refine ⟨_, rfl, refreshIndicator_eq (giveFeedback kind x), ?_, ?_⟩
  · rw [hfollows]; rfl
  · rw [hfollows, ← hled]; rfl

/-- A digit in IDLE is the first (R180). -/
theorem pressDigit_idle (digit : Nat) (hmode : s.ir.mode = .idle) : pressDigit digit s = stage digit 1 s := by
  simp only [pressDigit, hmode]

theorem pressDigit_entering (digit : Nat) {x : Staged} (hmode : s.ir.mode = .entering) (hstaged : s.ir.staged = some x) :
    pressDigit digit s =
      if x.digits < 3 then stage (10 * x.value + digit) (x.digits + 1) s else entryError s := by
  simp only [pressDigit, hmode, hstaged]

/-- Settles O54. -/
theorem digitsAreStaged : Obligations.DigitsAreStaged := by
  intro s t w key hrun haccepted hdigit m
  have hacts {x : State} := onAccepted_acts (s := s.advance t) (wanted := fun k => decide (k ≤ 9))
    (act := pressDigit (irKey w)) (x := x) haccepted (decide_eq_true hdigit)
  obtain ⟨-, -, rfl⟩ := haccepted
  have hentering {x : Staged} := pressDigit_entering (s := (s.advance t).pressed (irKey w)) (irKey w) (x := x)
  refine ⟨fun hmode => ?_, fun x hmode hstaged hfew => ?_, fun x hmode hstaged hmany => ?_⟩
  · have hx := hacts (pressDigit_idle _ hmode) rfl
    exact answers_running (s := s) hx hrun rfl
  · have hx := hacts ((hentering hmode hstaged).trans (if_pos hfew)) rfl
    exact answers_running (s := s) hx hrun rfl
  · have hx := hacts ((hentering hmode hstaged).trans (if_neg (Nat.not_lt.2 hmany))) rfl
    exact answers_feedback (s := s) (kind := .error) (x := { s.advance t with
      ir := portAfterKey s m w .idle none none }) hx hrun rfl

/-! ### ENTER and SITE_CLEAR (R180, R181) -/

theorem pressEnter_writes {w : IrWord} {x : Staged} {site : Site} (hmode : s.ir.mode = .entering)
    (hstaged : s.ir.staged = some x) (hvalue : x.value ≤ 240)
    (hsite : (if s.settings.site = 0 then irSite w else s.settings.site) = site) :
    pressEnter w s = beginWrite site x.value s := by
  simp only [pressEnter, hmode, hstaged, Config.addressTop, hvalue, if_true, hsite]

theorem pressEnter_over (w : IrWord) {x : Staged} (hmode : s.ir.mode = .entering) (hstaged : s.ir.staged = some x)
    (hvalue : 240 < x.value) : pressEnter w s = entryError s := by
  have hover : ¬x.value ≤ 240 := Nat.not_le.2 hvalue
  simp only [pressEnter, hmode, hstaged, Config.addressTop, hover, if_false]

theorem pressEnter_idle (w : IrWord) (hmode : s.ir.mode = .idle) : pressEnter w s = entryError s := by
  simp only [pressEnter, hmode]

/-- An accepted key that begins a settings write. -/
theorem answers_write {wanted : Nat → Bool} {act : State → State} {w : IrWord} {t key address : Nat} {site : Site}
    (hrun : s.supply.phase = .running) (haccepted : AcceptedKey s (max s.now t) w key) (hwanted : wanted key = true)
    (hact : act ((s.advance t).pressed (irKey w)) = beginWrite site address ((s.advance t).pressed (irKey w))) :
    ∃ u, done (whenRunning (onAccepted wanted w act) (s.advance t)) = .next u ∧ LedFollows s u ∧
      u.settings.record.mark = false ∧ u = { s with
        now := max s.now t
        free := s.free + 1
        ir := { portAfterKey s (max s.now t) w .storing none none with
          write := some { site := site, address := address, endsAt := max s.now t + 40000 } }
        settings := { s.settings with record := u.settings.record }
        indicator := u.indicator } := by
  have hx := onAccepted_acts (s := s.advance t) haccepted hwanted hact rfl
  obtain ⟨u, hu, hled, heq⟩ := answers_running (s := s) hx hrun rfl
  refine ⟨u, hu, hled, by rw [heq]; rfl, ?_⟩
  rw [heq]
  rfl

/-- An accepted key that gives error feedback. -/
theorem answers_error {wanted : Nat → Bool} {act : State → State} {w : IrWord} {t key : Nat}
    (hrun : s.supply.phase = .running) (haccepted : AcceptedKey s (max s.now t) w key) (hwanted : wanted key = true)
    (hact : act ((s.advance t).pressed (irKey w)) = entryError ((s.advance t).pressed (irKey w))) :
    ∃ u, done (whenRunning (onAccepted wanted w act) (s.advance t)) = .next u ∧
      u = { s with now := max s.now t, ir := portAfterKey s (max s.now t) w .idle none none, indicator := u.indicator } ∧
      u.indicator.feedback = some { kind := .error, endsAt := max s.now t + 1000000 } ∧
      u.indicator.identify = s.indicator.identify := by
  have hx := onAccepted_acts (s := s.advance t) haccepted hwanted hact rfl
  exact answers_feedback (s := s) (kind := .error) (x := { s.advance t with
    ir := portAfterKey s (max s.now t) w .idle none none }) hx hrun rfl

/-- Settles O55. -/
theorem keysBeginSettingsWrite : Obligations.KeysBeginSettingsWrite := by
  intro s t w hrun m writes errs
  refine ⟨fun x haccepted hmode hstaged => ⟨fun hvalue hsite => ?_, fun hvalue hsite => ?_, fun hvalue => ?_⟩,
    fun haccepted hmode => ?_, fun haccepted hsite => ?_, fun haccepted hsite => ?_⟩
  · exact answers_write hrun haccepted rfl
      (pressEnter_writes (s := (s.advance t).pressed (irKey w)) hmode hstaged hvalue (if_neg hsite))
  · exact answers_write hrun haccepted rfl
      (pressEnter_writes (s := (s.advance t).pressed (irKey w)) hmode hstaged hvalue (if_pos hsite))
  · exact answers_error hrun haccepted rfl
      (pressEnter_over (s := (s.advance t).pressed (irKey w)) w hmode hstaged hvalue)
  · exact answers_error hrun haccepted rfl (pressEnter_idle (s := (s.advance t).pressed (irKey w)) w hmode)
  · have hclear : pressSiteClear ((s.advance t).pressed (irKey w)) = _ := if_neg hsite
    exact answers_write hrun haccepted rfl hclear
  · have hclear : pressSiteClear ((s.advance t).pressed (irKey w)) = _ := if_pos hsite
    exact answers_error hrun haccepted rfl hclear

/-! ### CANCEL, SOUND, CLEAR and the entry timer (R180) -/

/-- IR CLEAR at the head supervisor as a head event (R135, R141). -/
theorem clearHead_event (s : State) : headEvent clearHead s = { s with
    head := if s.head.state = .stuck then { s.head with
        cycles := 0, supply := false, alarm := false, state := .resetting, timer := some (s.now + 1000000) }
      else s.head
    sender := if s.head.state = .stuck then { s.sender with presence := presenceAfterRoutine s } else s.sender
    sched := if s.head.state = .stuck then schedAfterRoutine s else s.sched } := by
  by_cases hstuck : s.head.state = .stuck
  · have hreset : clearHead s = beginReset 0 s := if_pos hstuck
    simp only [hstuck, if_true]
    exact headEvent_moved hreset fun h => nomatch h.trans hstuck
  · have hstays : clearHead s = s := if_neg hstuck
    simp only [hstuck, if_false]
    exact headEvent_nothing hstays

theorem clearIsolator_eq (s : State) : clearIsolator s = { s with
    isolator := if s.isolator.state = .latched then { state := .trial, failed := 0, timer := some (s.now + 100000) }
      else if s.isolator.state = .closed then s.isolator
      else { s.isolator with failed := 0 } } := by
  unfold clearIsolator
  cases hstate : s.isolator.state <;> rfl

/-- Settles O56. -/
theorem keysActInEntry : Obligations.KeysActInEntry := by
  intro s t w hrun m
  refine ⟨fun haccepted => ?_, fun haccepted => ?_, fun haccepted => ?_, fun d hat => ?_⟩
  · have hx := onAccepted_acts (s := s.advance t) (wanted := fun k => k == 11) (act := leaveEntry) haccepted rfl rfl rfl
    exact answers_running (s := s) hx hrun rfl
  · have hact := exemptRequest_eq ((s.advance t).pressed (irKey w))
    have hx := onAccepted_acts (s := s.advance t) (wanted := fun k => k == 12) haccepted rfl hact rfl
    exact answers_running (s := s) hx hrun rfl
  · have hact : pressClear ((s.advance t).pressed (irKey w)) = _ :=
      congrArg leaveEntry ((congrArg clearIsolator (clearHead_event _)).trans (clearIsolator_eq _))
    have hx := onAccepted_acts (s := s.advance t) (wanted := fun k => k == 13) haccepted rfl hact rfl
    exact answers_running (s := s) hx hrun rfl
  · have hx : (fun s : State => onExpiry s.ir.entryTimer leaveEntry s) s = leaveEntry (s.advance d) := by
      simp only [hat, onExpiry_some]
    exact answers_running (s := s) hx hrun rfl

end Sys2Proof.Machine
end

section
/-! SUPPORT. RESTART, discarded IR words, the end of a settings write and the indicator's timers (11). -/

namespace Sys2Proof.Machine

variable {s : State}

/-! ### RESTART (R179) -/

theorem restartHeld_iff (s : State) :
    restartHeld s = true ↔ ∃ p, s.ir.press = some p ∧ p.key = 14 ∧ p.since + 3000000 ≤ s.now := by
  unfold restartHeld restartKey Config.restartHold
  cases s.ir.press <;> simp

/-- Settles O57. -/
theorem heldRestartStarts : Obligations.HeldRestartStarts := by
  intro s t w hrun m
  have hrepeated : RepeatedKey s m w 14 → pressRestart w (s.advance t) =
      if restartHeld (s.advance t) = true then irRestart (s.advance t) else rememberWord w (s.advance t) := by
    intro h
    simp [pressRestart, judgeWord_repeated (s := s.advance t) h, restartKey]
  refine ⟨fun haccepted => ?_, fun hagain hshort => ?_, fun p hagain hpress hkey hlong => ?_⟩
  · have hkey : irKey w = 14 := haccepted.2.2
    have hx : pressRestart w (s.advance t) = acceptKey (irKey w) w (fun s => s) (s.advance t) := by
      simp [pressRestart, judgeWord_accepted (s := s.advance t) haccepted, restartKey, hkey]
    exact answers_running (s := s) hx hrun rfl
  · have hnot : ¬restartHeld (s.advance t) = true := by
      rw [restartHeld_iff]
      rintro ⟨p, hpress, hkey, hlong⟩
      exact Nat.not_le.2 (hshort p hpress hkey) hlong
    exact answers_running (s := s) ((hrepeated hagain).trans (if_neg hnot)) hrun rfl
  · have hheld : restartHeld (s.advance t) = true := (restartHeld_iff _).2 ⟨p, hpress, hkey, hlong⟩
    have hx : pressRestart w (s.advance t) = irRestart (s.advance t) := (hrepeated hagain).trans (if_pos hheld)
    have hexec : exec (.restart t w) s = done (irRestart (s.advance t)) :=
      congrArg done ((whenRunning_running (s.advance t) _ hrun).trans hx)
    have hled := ledFollows_refresh (irRestart (s.advance t)) (irRestart (s.advance t)) rfl
    refine ⟨_, hexec, ?_, ?_, refreshIndicator_eq _⟩
    · rw [hled]; rfl
    · rw [hled]; rfl

/-! ### IR_WORD_DISCARDED (R177 to R179) -/

theorem judgeWord_mismatch {w : IrWord} (hmode : s.ir.mode ≠ .storing) (hcheck : irCheckOk w = true)
    (hsite : s.settings.site ≠ 0 ∧ irSite w ≠ s.settings.site) : judgeWord s w = .siteMismatch := by
  rw [judgeWord, if_neg hmode, if_neg (by simp [hcheck]), if_pos hsite]

theorem judgeWord_outOfRange {w : IrWord} (hmode : s.ir.mode ≠ .storing) (hcheck : irCheckOk w = true)
    (hsite : ¬(s.settings.site ≠ 0 ∧ irSite w ≠ s.settings.site)) (hkey : 15 < irKey w) :
    judgeWord s w = .outOfRange := by
  rw [judgeWord, if_neg hmode, if_neg (by simp [hcheck]), if_neg hsite, if_pos hkey]

theorem abandonHold_eq (s : State) : abandonHold s = { s with ir := { s.ir with
    press := if s.ir.press.any (fun p => decide (p.key = 14)) = true then none else s.ir.press } } := by
  unfold abandonHold restartKey
  split <;> rfl

/-- Settles O58: the clauses are the verdicts in the order of R177. -/
theorem discardedWordsLeaveFlags : Obligations.DiscardedWordsLeaveFlags := by
  intro s t w hrun m checkOk siteOk key
  have hcheck : irCheckOk w = true ↔ checkOk := irCheckOk_iff w
  have hsite : ¬(s.settings.site ≠ 0 ∧ irSite w ≠ s.settings.site) ↔ siteOk := by
    rw [Classical.not_and_iff_not_or_not, Classical.not_not, Classical.not_not]
    rfl
  refine ⟨fun hmode => ?_, fun hmode hbad => ?_, fun hmode hok hother => ?_, fun hmode hok hsame hover => ?_,
    fun last hmode hok hsame hkey hnot hlast htoggle hsoon => ?_⟩
  · have hverdict : judgeWord (s.advance t) w = .overflow := if_pos hmode
    have hx : discardWord w (s.advance t) = { s.advance t with ir := { s.ir with overflow := true } } := by
      simp only [discardWord, hverdict]
      rfl
    exact answers_running (s := s) hx hrun rfl
  · have hverdict : judgeWord (s.advance t) w = .checkError :=
      (if_neg hmode).trans (if_pos (Bool.not_eq_true _ ▸ mt hcheck.1 hbad))
    have hx : discardWord w (s.advance t) = { s.advance t with ir := { s.ir with checkError := true } } := by
      simp only [discardWord, hverdict]
      rfl
    exact answers_running (s := s) hx hrun rfl
  · have hverdict : judgeWord (s.advance t) w = .siteMismatch :=
      judgeWord_mismatch hmode (hcheck.2 hok) (Classical.not_not.1 (mt hsite.1 hother))
    have hx : discardWord w (s.advance t) = giveFeedback .error
        { s.advance t with ir := { s.ir with siteMismatch := true } } := by
      simp only [discardWord, hverdict]
      rfl
    exact answers_feedback (s := s) hx hrun rfl
  · have hverdict : judgeWord (s.advance t) w = .outOfRange :=
      judgeWord_outOfRange hmode (hcheck.2 hok) (hsite.2 hsame) hover
    have hx : discardWord w (s.advance t) = s.advance t := by simp only [discardWord, hverdict]
    exact answers_running (s := s) hx hrun rfl
  · have hverdict : judgeWord (s.advance t) w = .repeated key :=
      judgeWord_repeated ⟨⟨hmode, hok, hsame, hkey⟩, ⟨last, hlast, htoggle, hsoon⟩, rfl⟩
    have hx : discardWord w (s.advance t) = rememberWord w (abandonHold (s.advance t)) := by
      simp only [discardWord, hverdict, restartKey, hnot, if_false]
    rw [abandonHold_eq] at hx
    exact answers_running (s := s) hx hrun rfl

/-! ### The end of a settings write (R181, R182) -/

/-- An exempt request reads the sender, the scheduler and the lockout alone (R115, R117). -/
theorem afterExempt_congr {x y : State} (hsender : x.sender = y.sender) (hsched : x.sched = y.sched)
    (hretained : x.retained = y.retained) :
    presenceAfterExempt x = presenceAfterExempt y ∧ schedAfterExempt x = schedAfterExempt y := by
  unfold presenceAfterExempt schedAfterExempt slotAfterFill State.onLine
  rw [hsender, hsched, hretained]
  exact ⟨rfl, rfl⟩

/-- What was read back is what was programmed (R181, R182). -/
theorem readBack_iff (site : Site) (address check : Byte) (x : Write) :
    ({ site := site, address := address, check := check, mark := true } : SettingsRecord) = programmed x ↔
      site = x.site ∧ address = BitVec.ofNat 8 x.address ∧
        check = ~~~(x.site.extractLsb' 8 8 ^^^ x.site.extractLsb' 0 8 ^^^ BitVec.ofNat 8 x.address) := by
  simp [programmed, recordCheck, u8]

/-- The station once a change of CONFLICT between shown and not shown has made its routine request (R82). -/
def State.askedIfShown (s : State) (conflict : Option Serial) : State :=
  if conflict.isSome = s.roster.conflict.isSome then s
  else { s with sender := { s.sender with presence := presenceAfterRoutine s }, sched := schedAfterRoutine s }

/-- The station with the written values stored, CONFLICT as they give it, and another sender and scheduler (R80, R181). -/
def State.stored (s : State) (x : Write) (sender : LineSender) (sched : Scheduler) : State :=
  { s with
    settings := { s.settings with record := programmed x, site := x.site, address := x.address, recovered := false }
    roster := { s.roster with conflict := conflictOf x.address s.roster.entries }
    sender := sender
    sched := sched }

/-- The conflict is evaluated for the values just stored (R80, R181). -/
theorem evaluateConflict_stored (x : Write) (s : State) :
    evaluateConflict { s with settings := { s.settings with
      record := programmed x, site := x.site, address := x.address, recovered := false } } =
    s.stored x (s.askedIfShown (conflictOf x.address s.roster.entries)).sender
      (s.askedIfShown (conflictOf x.address s.roster.entries)).sched := by
  rw [evaluateConflict_eq]
  by_cases hshown : (conflictOf x.address s.roster.entries).isSome = s.roster.conflict.isSome
  · simp only [State.askedIfShown, hshown, if_true]
    rfl
  · simp only [State.askedIfShown, hshown, if_false]
    rfl

/-- A completed write (R80, R117, R181); `a` is the station after the request that a change of CONFLICT makes. -/
theorem completeWrite_eq (x : Write) {s a : State}
    (hsender : (s.askedIfShown (conflictOf x.address s.roster.entries)).sender = a.sender)
    (hsched : (s.askedIfShown (conflictOf x.address s.roster.entries)).sched = a.sched)
    (hretained : s.retained = a.retained) : completeWrite x s = giveFeedback .acknowledge (endStoring (s.stored x
      (if x.address = s.settings.address then a.sender else { a.sender with presence := presenceAfterExempt a })
      (if x.address = s.settings.address then a.sched else schedAfterExempt a))) := by
  have hstored := evaluateConflict_stored x s
  rw [hsender, hsched] at hstored
  have hexempt := exemptRequest_eq (s.stored x a.sender a.sched)
  obtain ⟨hpresence, hschedAfter⟩ := afterExempt_congr (x := s.stored x a.sender a.sched) (y := a) rfl rfl hretained
  rw [hpresence, hschedAfter] at hexempt
  refine congrArg (fun y => endStoring (giveFeedback .acknowledge y)) ?_
  rw [hstored, hexempt]
  split <;> rfl

theorem askedIfShown_advance (t : Nat) (conflict : Option Serial) (s : State) :
    ((s.advance t).askedIfShown conflict).sender = (s.askedIfShown conflict).sender ∧
      ((s.advance t).askedIfShown conflict).sched = (s.askedIfShown conflict).sched ∧
      s.retained = (s.askedIfShown conflict).retained := by
  unfold State.askedIfShown State.advance
  split <;> exact ⟨rfl, rfl, rfl⟩

/-- Settles O59. -/
theorem settingsWriteEnds : Obligations.SettingsWriteEnds := by
  intro s x site address check hrun hwrite hrange m good idle a
  have hends : (fun s : State => match s.ir.write with
      | none => s
      | some x => endWrite site address check x (s.advance x.endsAt)) s =
      endWrite site address check x (s.advance x.endsAt) := by
    simp only [hwrite]
  refine ⟨fun hgood => ?_, fun hbad => ?_⟩
  · have hread := (readBack_iff site address check x).2 hgood
    have hx : endWrite site address check x (s.advance x.endsAt) = completeWrite x (s.advance x.endsAt) := if_pos hread
    obtain ⟨hsender, hsched, hretained⟩ := askedIfShown_advance x.endsAt (conflictOf x.address s.roster.entries) s
    rw [completeWrite_eq (s := s.advance x.endsAt) (a := a) x hsender hsched hretained] at hx
    rw [hread]
    exact answers_feedback (s := s) (kind := .acknowledge) (x := endStoring ((s.advance x.endsAt).stored x
      (if x.address = s.settings.address then a.sender else { a.sender with presence := presenceAfterExempt a })
      (if x.address = s.settings.address then a.sched else schedAfterExempt a))) (hends.trans hx) hrun rfl
  · have hx : endWrite site address check x (s.advance x.endsAt) =
        failWrite { site := site, address := address, check := check, mark := false } (s.advance x.endsAt) :=
      if_neg (mt (readBack_iff site address check x).1 hbad)
    exact answers_feedback (s := s) (kind := .error) (x := { s.advance x.endsAt with
      settings := { s.settings with record := { site := site, address := address, check := check, mark := false } }
      ir := idle }) (hends.trans hx) hrun rfl

/-! ### The timers of the latch and the indicator (R140, R185 to R187) -/

/-- Settles O60. -/
theorem latchAndLedTimersRunOut : Obligations.LatchAndLedTimersRunOut := by
  intro s hrun
  refine ⟨fun d hat => ?_, fun f hat => ?_, fun d hat => ?_⟩
  · have hx : (fun s : State => onExpiry s.head.testedLatch clearLatch s) s = clearLatch (s.advance d) := by
      simp only [hat, onExpiry_some]
    exact answers_running (s := s) hx hrun rfl
  · have hx : (fun s : State => onExpiry (s.indicator.feedback.map Feedback.endsAt) endFeedback s) s =
        endFeedback (s.advance f.endsAt) := by
      simp only [hat, Option.map_some, onExpiry_some]
    exact answers_running (s := { s with indicator := { s.indicator with feedback := none } }) hx hrun rfl
  · have hx : (fun s : State => onExpiry s.indicator.identify endIdentify s) s = endIdentify (s.advance d) := by
      simp only [hat, onExpiry_some]
    exact answers_running (s := { s with indicator := { s.indicator with identify := none } }) hx hrun rfl

end Sys2Proof.Machine
end

section
/-! SUPPORT. An idle with the hearing of its frame (log 7, 8, 52): what delivery leaves of the sender, and that starting a message
does not read the LED block. -/

namespace Sys2Proof.Machine

variable {s : State}

/-! ### Delivery leaves the sender's state and its message on the line -/

/-- The sender of `t` is in the state of that of `s`, with the same message on the line. -/
def SendsAs (s t : State) : Prop := t.sender.state = s.sender.state ∧ t.sender.outgoing = s.sender.outgoing

theorem fillSlot_sendsAs (k : OutKind) : SendsAs s (fillSlot k s) := by
  rw [fillSlot_eq]
  cases k <;> exact ⟨rfl, rfl⟩

theorem exemptRequest_sendsAs : SendsAs s (exemptRequest s) := by
  rw [exemptRequest_eq]
  exact ⟨rfl, rfl⟩

theorem evaluateConflict_sendsAs : SendsAs s (evaluateConflict s) := by
  rw [evaluateConflict_eq]
  unfold SendsAs
  dsimp only
  split <;> exact ⟨rfl, rfl⟩

theorem takeIn_sendsAs (sender : Serial) (via : Via) (m : Message) : SendsAs s (takeIn sender via m s) := by
  unfold takeIn takeNewcomer
  split
  case h_1 e hfind => exact evaluateConflict_sendsAs (s := s.withEntries _)
  case h_2 hfind =>
    split
    · exact evaluateConflict_sendsAs (s := s.withEntries _)
    · split
      · exact evaluateConflict_sendsAs (s := s.withEntries _)
      · exact ⟨rfl, rfl⟩

theorem takeQuiet_sendsAs (d : Nat) : SendsAs s (takeQuiet d s) := by
  cases d with
  | zero =>
    unfold takeQuiet
    rw [if_pos rfl]
    split
    · rw [endQuiet_eq]; exact ⟨rfl, rfl⟩
    · exact ⟨rfl, rfl⟩
  | succ d =>
    rw [takeQuiet_positive s (d + 1) d.succ_pos]
    unfold SendsAs
    dsimp only
    split <;> exact ⟨rfl, rfl⟩

theorem deliverQuery_sendsAs (requester : Serial) (selector : Selector) (item : Nat) (index : Option Nat) :
    SendsAs s (deliverQuery requester selector item index s) := by
  unfold deliverQuery
  split
  · exact ⟨rfl, rfl⟩
  · split
    · exact exemptRequest_sendsAs
    · split
      · exact ⟨rfl, rfl⟩
      · unfold takeQuery
        dsimp only
        split
        · exact fillSlot_sendsAs (s := { s with reply := { record := some _ } }) .reply
        · exact fillSlot_sendsAs (s := { s with reply := { record := some _ } }) .reply

theorem deliver_sendsAs (sender : Serial) (via : Via) (m : Message) : SendsAs s (deliver sender via m s) := by
  unfold deliver
  split
  · exact ⟨rfl, rfl⟩
  · cases m with
    | presence p => simpa [SendsAs] using takeIn_sendsAs (s := s) sender via (.presence p)
    | test address kind number typeTested => exact takeIn_sendsAs (s := s) sender via (.test address kind number typeTested)
    | query selector item index => exact deliverQuery_sendsAs sender selector item index
    | quiet duration => exact takeQuiet_sendsAs duration
    | reply => exact takeIn_sendsAs sender via .reply

/-- A frame taken in leaves the sender's state, its message, and of the receiver all but the tallies. -/
theorem takeReception_sendsAs (r : Reception) : SendsAs s (takeReception r s) := by
  cases r with
  | delivered sender via iDamaged m => exact deliver_sendsAs (s := countGood iDamaged s) sender via m
  | foreign => exact ⟨rfl, rfl⟩
  | discarded kind => exact ⟨rfl, rfl⟩

theorem takeReception_receiver (r : Reception) : ∃ good damaged foreign lastDamage, (takeReception r s).rx =
    { s.rx with good := good, damaged := damaged, foreign := foreign, lastDamage := lastDamage } := by
  cases r with
  | delivered sender via iDamaged m =>
    have hrx : (takeReception (.delivered sender via iDamaged m) s).rx = (countGood iDamaged s).rx := by
      simp [takeReception]
    exact ⟨_, _, _, _, hrx⟩
  | foreign => exact ⟨_, _, _, _, rfl⟩
  | discarded kind => exact ⟨_, _, _, _, rfl⟩

/-! ### A started message and the LED block (R186) -/

/-- The station with another LED block. -/
def State.withLed (s : State) (led : Indicator) : State := { s with indicator := led }

theorem captureFields_withLed (s : State) (led : Indicator) (k : OutKind) :
    captureFields (s.withLed led) k = captureFields s k := by
  cases k <;> rfl

theorem beginMessage_withLed (s : State) (led : Indicator) (k : OutKind) :
    beginMessage k (s.withLed led) = (beginMessage k s).withLed led := by
  have hready : beforeCapture k (s.withLed led) = (beforeCapture k s).withLed led := by cases k <;> rfl
  simp only [beginMessage, hready, captureFields_withLed]
  cases captureFields (beforeCapture k s) k <;> rfl

/-- What the sender and the sounding unit do at an idle does not depend on the LED block. -/
theorem contend_truncate_withLed (s : State) (led : Indicator) (r : TailReadings) :
    contend (truncate r (s.withLed led)) = (contend (truncate r s)).withLed led := by
  have htruncate : truncate r (s.withLed led) = (truncate r s).withLed led := by
    rw [truncate_eq, truncate_eq]
    rfl
  have hcontend (x : State) : contend (x.withLed led) = (contend x).withLed led := by
    unfold contend
    have hstate : (x.withLed led).sender = x.sender := rfl
    rw [hstate]
    split
    · cases pickSlot x.sender with
      | none => rfl
      | some k => exact beginMessage_withLed x led k
    · rfl
  rw [htruncate, hcontend]

/-- What the sender and the sounding unit do at an idle leaves the first condition (R186). -/
theorem firstCondition_contend (s : State) (r : TailReadings) :
    (contend (truncate r s)).firstCondition = s.firstCondition := by
  have h := contend_frame (truncate r s)
  rw [truncate_eq] at h ⊢
  refine firstCondition_congr ?_ ?_ ?_ ?_ ?_ ?_ ?_ <;> simp

/-! ### The three commands one after another (log 7, 8, 52) -/

/-- A line that is idle already, with no frame under way and an own tail noted, is judged idle again without change. -/
theorem judgeIdle_again (hidle : s.rx.idle = true) (hunder : s.rx.underWay = none)
    (htail : (s.rx.idleInTail || decide (s.sender.state = .tail)) = s.rx.idleInTail) : judgeIdle s = s := by
  have hrx : (judgeIdle s).rx = s.rx := by
    simp only [judgeIdle, hunder, htail, Option.toList_none, List.append_nil]
    rw [← hidle, ← hunder]
  calc judgeIdle s = { s with rx := (judgeIdle s).rx } := rfl
    _ = s := by rw [hrx]

/-- A frame decided where its idle has just been judged leaves the line judged idle. -/
theorem judgeIdle_decided (frame : RxFrame) (h : Heard) (rec : Reception)
    (hnone : (decideFrame frame h).announcesTail = false) :
    let y := takeReception rec { judgeIdle s with rx := withoutFrame (judgeIdle s).rx frame h }
    judgeIdle y = y ∧ y.rx.idleNotBefore = s.rx.idleNotBefore ∧ SendsAs s y := by
  intro y
  have hframe : withoutFrame (judgeIdle s).rx frame h =
      { (judgeIdle s).rx with awaiting := (judgeIdle s).rx.awaiting.drop 1 } := by
    simp [withoutFrame, hnone]
  have hsends : SendsAs s y := takeReception_sendsAs (s := { judgeIdle s with rx := _ }) rec
  obtain ⟨good, damaged, foreign, lastDamage, hrx⟩ :=
    takeReception_receiver (s := { judgeIdle s with rx := withoutFrame (judgeIdle s).rx frame h }) rec
  have hrx' : y.rx = _ := hrx
  rw [hframe] at hrx'
  refine ⟨judgeIdle_again ?_ ?_ ?_, ?_, hsends⟩
  · rw [hrx']; rfl
  · rw [hrx']; rfl
  · rw [hrx', hsends.1]
    simp [judgeIdle]
  · rw [hrx']; rfl

/-- The command of a message delivers it to the station in which an idle has just been judged. -/
theorem exec_decides {t : Nat} {h : Heard} {frame : RxFrame} {c : Instr} (hrun : s.supply.phase = .running)
    (hnow : s.advance t = s) (hhand : FrameAtHand s (max s.now t) frame h)
    (hc : (∃ sender via iDamaged m, receptionOf s.settings.site frame h = .delivered sender via iDamaged m ∧
        c = commandOf m t h) ∨
      ((receptionOf s.settings.site frame h).isDiscard = true ∧ c = .frameDiscarded t h)) :
    exec c s = done (takeReception (receptionOf s.settings.site frame h) { s with rx := withoutFrame s.rx frame h }) := by
  obtain ⟨sender, via, iDamaged, m, hout, rfl⟩ | ⟨hdiscard, rfl⟩ := hc
  · have hcounted := countGood_eq s t frame h iDamaged
    rw [hnow] at hcounted
    rw [exec_commandOf s t h frame sender via iDamaged m hrun hhand hout, ← hcounted, hout]
    rfl
  · rw [exec_frameDiscarded hrun hhand hdiscard, hnow]

/-- The idle alone, where nothing is observed or waits: the line is judged idle. -/
theorem exec_idle_alone {t : Nat} (r : TailReadings) (hrun : s.supply.phase = .running) (hfree : LineFree s)
    (hidle : s.rx.idleNotBefore ≤ max s.now t) (hobs : s.sounding.obs = none)
    (hempty : ∀ k, (s.sender.slot k).filled = false) (hshown : s.indicator.shown = s.firstCondition) :
    exec (.lineIdle t { frame := none, tail := r }) s = .next (judgeIdle (s.advance t)) := by
  have hx := lineBecomesIdle_judged (s := s.advance t) r hfree hidle
  have huncut : truncate r (judgeIdle (s.advance t)) = judgeIdle (s.advance t) := by
    simp [truncate, judgeIdle, State.advance, hobs]
  rw [huncut, contend_empty (judgeIdle (s.advance t)) hempty] at hx
  have hled : State.refreshIndicator (judgeIdle (s.advance t)) = judgeIdle (s.advance t) := if_pos hshown.symm
  exact (congrArg done ((whenRunning_running (s.advance t) _ hrun).trans hx)).trans (congrArg Host.Outcome.next hled)

/-- The idle with the hearing of the frame it ends: the frame is decided before the sender starts (log 52). -/
theorem exec_idle_heard {t : Nat} {h : Heard} {frame : RxFrame} {rest : List RxFrame} (r : TailReadings)
    (hrun : s.supply.phase = .running) (hfree : LineFree s) (hidle : s.rx.idleNotBefore ≤ max s.now t)
    (hawaiting : s.rx.awaiting ++ s.rx.underWay.toList = frame :: rest)
    (hnone : (decideFrame frame h).announcesTail = false) (hquiet : frame.lastSink h + 6000 ≤ max s.now t) :
    exec (.lineIdle t { frame := some h, tail := r }) s =
      done (contend (truncate r (takeReception (receptionOf s.settings.site frame h)
        { judgeIdle (s.advance t) with rx := withoutFrame (judgeIdle (s.advance t)).rx frame h }))) := by
  have hheard : (s.advance t).heardQuiet (some h) = true := by
    have hfirst : ((s.advance t).rx.awaiting ++ (s.advance t).rx.underWay.toList).head? = some frame :=
      congrArg List.head? hawaiting
    simp only [State.heardQuiet, hfirst]
    exact decide_eq_true hquiet
  have hx : lineBecomesIdle { frame := some h, tail := r } (s.advance t) =
      contend (truncate r (receiveIf (fun _ => true) h (judgeIdle (s.advance t)))) :=
    if_pos ((mayJudgeIdle_iff (s.advance t) (some h)).2 ⟨hidle, hfree, hheard⟩)
  have hhand : FrameAtHand (judgeIdle (s.advance t)) (max s.now t) frame h := .inl ⟨⟨rest, hawaiting⟩, hnone, hquiet⟩
  rw [receiveIf_atHand (judgeIdle (s.advance t)) h frame _ hhand rfl] at hx
  exact congrArg done ((whenRunning_running (s.advance t) _ hrun).trans hx)

/-- The idle once more, after a command of the same moment that has left the line idle: only the cut and the start are
left to do, and neither reads the LED block. -/
theorem exec_idle_again {t : Nat} (r : TailReadings) (hrun : s.supply.phase = .running) (hnow : max s.now t = s.now)
    (hfree : LineFree s) (hidle : s.rx.idleNotBefore ≤ s.now) (hagain : judgeIdle s = s) :
    exec (.lineIdle t { frame := none, tail := r }) s.refreshIndicator = done (contend (truncate r s)) := by
  have hw : s.refreshIndicator = s.withLed s.refreshIndicator.indicator := refreshIndicator_eq s
  have hstill : s.refreshIndicator.advance t = s.refreshIndicator := by
    have hlate : max s.refreshIndicator.now t = s.refreshIndicator.now := by simpa using hnow
    rw [State.advance, hlate]
  have hx := lineBecomesIdle_judged (s := s.refreshIndicator) r (by rw [hw]; exact hfree) (by rw [hw]; exact hidle)
  have hjudged : judgeIdle s.refreshIndicator = s.refreshIndicator := by
    rw [hw]
    exact congrArg (State.withLed · s.refreshIndicator.indicator) hagain
  rw [hjudged, hw, contend_truncate_withLed, ← hw] at hx
  have hexec : exec (.lineIdle t { frame := none, tail := r }) s.refreshIndicator =
      done ((contend (truncate r s)).withLed s.refreshIndicator.indicator) :=
    congrArg done (by rw [hstill, whenRunning_running _ _ (by simpa using hrun)]; exact hx)
  refine hexec.trans (congrArg Host.Outcome.next (refreshIndicator_twice ?_ ?_ (firstCondition_contend s r)))
  · simp
  · simp

/-- Settles O36: the idle leaves the frame at hand, its decision leaves the line idle, and the idle after it changes nothing
before the sender starts, so both ways end in one state but for the LED block, which reads no more than that state. -/
theorem idleDecidesHeardFrame : Obligations.IdleDecidesHeardFrame := by
  intro s t h r frame rest hrun hfree hidle hobs hempty hawaiting hnone hquiet hshown idle byItself
  let j := judgeIdle (s.advance t)
  let y := takeReception (receptionOf s.settings.site frame h) { j with rx := withoutFrame j.rx frame h }
  obtain ⟨hagain, hbefore, hstate, hout⟩ :=
    judgeIdle_decided (s := s.advance t) frame h (receptionOf s.settings.site frame h) hnone
  have hynow : y.now = max s.now t := by simp [y, j, State.advance]
  have hfreeAfter : LineFree y := ⟨hout.trans hfree.1, fun hquietCells => hfree.2 (hstate.symm.trans hquietCells)⟩
  have hlast : exec (idle none) y.refreshIndicator = done (contend (truncate r y)) :=
    exec_idle_again r (by simp [y, j, State.advance, hrun]) (by rw [hynow]; omega) hfreeAfter
      (Nat.le_trans (Nat.le_of_eq hbefore) (Nat.le_trans hidle (Nat.le_of_eq hynow.symm))) hagain
  have hall : ∀ c, exec c j = done y → byItself c := fun c hc =>
    ⟨j, y.refreshIndicator, (contend (truncate r y)).refreshIndicator,
      exec_idle_alone r hrun hfree hidle hobs hempty hshown, hc, hlast,
      exec_idle_heard r hrun hfree hidle hawaiting hnone hquiet⟩
  have hstays : j.advance t = j := by
    have hlate : max j.now t = j.now := by simp [j, State.advance]
    rw [State.advance, hlate]
  have hhand : FrameAtHand j (max j.now t) frame h :=
    .inl ⟨⟨rest, hawaiting⟩, hnone, Nat.le_trans hquiet (Nat.le_max_left _ _)⟩
  refine ⟨fun sender via iDamaged m hout => hall _ ?_, fun k hout => hall _ ?_, fun hout => hall _ ?_⟩
  · exact exec_decides hrun hstays hhand (.inl ⟨sender, via, iDamaged, m, hout, rfl⟩)
  · exact exec_decides hrun hstays hhand (.inr ⟨congrArg Reception.isDiscard hout, rfl⟩)
  · exact exec_decides hrun hstays hhand (.inr ⟨congrArg Reception.isDiscard hout, rfl⟩)

end Sys2Proof.Machine
end

section
/-! SUPPORT. Fields written and read back (R21, R25 to R31, R34 to R37). -/

namespace Sys2Proof.Machine

variable {s : State}

/-! ### Bytes and packed bytes (R21, R27, R28) -/

theorem u8_toNat (n : Nat) : (u8 n).toNat = n % 256 := BitVec.toNat_ofNat n 8

/-- A number below 2 ^ 16 is read back from its two bytes. -/
theorem u16_reads {n : Nat} (h : n < 65536) : 256 * (u8 (n / 256)).toNat + (u8 n).toNat = n := by
  simp only [u8_toNat]
  omega

/-- A number below 2 ^ 24 is read back from its three bytes. -/
theorem u24_reads {n : Nat} (h : n < 16777216) :
    65536 * (u8 (n / 65536)).toNat + 256 * (u8 (n / 256)).toNat + (u8 n).toNat = n := by
  simp only [u8_toNat]
  omega

/-- A site code is read back from its two bytes. -/
theorem site_reads (x : Site) : BitVec.ofNat 16 (256 * (x.extractLsb' 8 8).toNat + (x.extractLsb' 0 8).toNat) = x := by
  apply BitVec.eq_of_toNat_eq
  have hx := x.isLt
  simp only [BitVec.toNat_ofNat, BitVec.extractLsb'_toNat, Nat.shiftRight_eq_div_pow, Nat.pow_zero, Nat.div_one]
  omega

/-- The site code of fields that begin with its two bytes. -/
theorem frameSite_cons (x : Site) (rest : List Byte) :
    frameSite (x.extractLsb' 8 8 :: x.extractLsb' 0 8 :: rest) = x := by
  have hread : fieldNat (x.extractLsb' 8 8 :: x.extractLsb' 0 8 :: rest) 0 2 =
      256 * (x.extractLsb' 8 8).toNat + (x.extractLsb' 0 8).toNat := fieldNat_two (by simp)
  rw [frameSite, hread, site_reads]

/-- The bits of a packed byte that a peer reads: the first and the third from the end. -/
theorem packFlags_bits (b7 b6 b5 b4 b3 b2 b1 b0 : Bool) :
    (packFlags b7 b6 b5 b4 b3 b2 b1 b0).getLsbD 7 = b7 ∧ (packFlags b7 b6 b5 b4 b3 b2 b1 b0).getLsbD 2 = b2 := by
  revert b7 b6 b5 b4 b3 b2 b1 b0
  decide

/-- Head state and test state are read back from a head byte. -/
theorem headByteOf_reads (h : HeadState) (t : TestState) :
    headStateOfCode (headByteOf h t).toNat = h ∧ testStateOfCode ((headByteOf h t).toNat / 8 % 4) = some t := by
  cases h <;> cases t <;> decide

/-- Neither half of a state byte is 3. -/
theorem stateByte_codes (s : State) : s.stateByte.toNat % 4 ≠ 3 ∧ s.stateByte.toNat / 4 % 4 ≠ 3 := by
  unfold State.stateByte
  cases s.supply.cause <;> cases s.port.orientation <;> decide

theorem testKind_reads (k : TestKind) : testKindOfCode (u8 k.code).toNat = some k := by cases k <;> decide

theorem headType_reads (x : HeadType) : headTypeOfCode (u8 x.code).toNat = some x := by cases x <;> decide

/-- An own depth in range, or none, is read back. -/
theorem depth_reads {x : Option Nat} (h : AtMost 11375 x) :
    bringDepth (256 * (u8 (x.getD 65535 / 256)).toNat + (u8 (x.getD 65535)).toNat) = x := by
  cases x with
  | none => rfl
  | some d =>
    have hd := h d rfl
    rw [u16_reads (by simp only [Option.getD_some]; omega)]
    exact if_pos hd

/-! ### What a peer makes of the fields (R23, R26) -/

/-- A peer takes a site that is its own, or where either is 0 (R26). -/
theorem siteTaken_of {stored carried : Site} (h : stored = 0 ∨ carried = 0 ∨ stored = carried) :
    siteTaken stored carried = true := by
  rcases h with h | h | h <;> simp [siteTaken, h]

/-- A frame that passes the four checks is a message. -/
theorem judgeFrame_of {stored : Site} {f : Frame} {k : Kind} {m : Message} (hkind : kindOfClass f.cls = some k)
    (hlength : lengthCheck k f.fields = none)
    (hsite : stored = 0 ∨ frameSite f.fields = 0 ∨ stored = frameSite f.fields)
    (hread : readFields k f.fields = .message m) : judgeFrame stored f = .message m := by
  simp only [judgeFrame, hkind, hlength, siteTaken_of hsite, if_true, hread]

theorem needLength_self (n : Nat) : needLength n n = none := if_pos rfl

/-! ### PRESENCE and TEST (R29 to R31) -/

theorem frameSite_presence (s : State) : frameSite (presenceFields s) = s.settings.site := frameSite_cons _ _

theorem frameSite_test (s : State) (e : TestEvent) : frameSite (testFields s e) = s.settings.site := frameSite_cons _ _

/-- The conflict serial of a PRESENCE, which follows its flag byte where CONFLICT is shown (R29). -/
def State.conflictBytes (s : State) : List Byte :=
  match s.roster.conflict with
  | some c => serialBytes c
  | none => []

/-- The fields of a PRESENCE, byte by byte (R29). -/
theorem presenceFields_bytes (s : State) : presenceFields s =
    s.settings.site.extractLsb' 8 8 :: s.settings.site.extractLsb' 0 8 :: u8 s.settings.address :: u8 s.sched.interval ::
      u8 (s.supply.uptime / 65536) :: u8 (s.supply.uptime / 256) :: u8 s.supply.uptime ::
      u8 (s.settings.trim / 256) :: u8 s.settings.trim ::
      u8 (s.ownDepthSent.getD 65535 / 256) :: u8 (s.ownDepthSent.getD 65535) ::
      u8 s.sounding.ownQuality :: s.stateByte :: s.headByte :: s.flagByte :: s.conflictBytes := rfl

/-- The length of a PRESENCE is the one its flag byte calls for (R25, R29). -/
theorem lengthCheck_presence (s : State) : lengthCheck .presence (presenceFields s) = none := by
  have hlength : (presenceFields s).length = 15 + s.conflictBytes.length := by
    rw [presenceFields_bytes]
    simp only [List.length_cons]
    omega
  have hflag : fieldBit (presenceFields s) 14 7 = s.roster.conflict.isSome := (packFlags_bits _ _ _ _ _ _ _ _).1
  have hlong : ¬15 + s.conflictBytes.length < 15 := by omega
  simp only [lengthCheck, hlength, hlong, if_false, hflag]
  unfold State.conflictBytes
  cases s.roster.conflict <;> rfl

theorem u8_reads {n : Nat} (h : n < 256) : (u8 n).toNat = n := (u8_toNat n).trans (Nat.mod_eq_of_lt h)

/-- The own depth as sent is in range, or absent (R29). -/
theorem ownDepthSent_atMost (h : AtMost 11375 s.sounding.ownDepth) : AtMost 11375 s.ownDepthSent := by
  unfold State.ownDepthSent
  split
  · exact fun _ hnone => nomatch hnone
  · exact h

/-- A peer reads of a captured PRESENCE what the station held (R30). -/
theorem readPresence_captured (haddress : s.settings.address ≤ 240)
    (hinterval : 30 ≤ s.sched.interval ∧ s.sched.interval ≤ 155) (huptime : s.supply.uptime ≤ 16777215) (htrim : TrimInRange s.settings.trim) (hquality : s.sounding.ownQuality ≤ 15)
    (hdepth : AtMost 11375 s.sounding.ownDepth) :
    readPresence (presenceFields s) = .message (.presence {
      address := s.settings.address, interval := s.sched.interval, uptime := s.supply.uptime, trim := s.settings.trim
      depth := s.ownDepthSent, headState := s.head.state, testState := s.head.record.state
      soundFollows := s.tailWouldFollow }) := by
  obtain ⟨hlow, hhigh⟩ := htrim
  have hlong (k : Nat) (hk : k < 15) : k < (presenceFields s).length := by
    rw [presenceFields_bytes]
    simp only [List.length_cons]
    omega
  have h2 : fieldAt (presenceFields s) 2 = s.settings.address := u8_reads (by omega)
  have h3 : fieldAt (presenceFields s) 3 = s.sched.interval := u8_reads (by omega)
  have h4 : fieldNat (presenceFields s) 4 3 = s.supply.uptime :=
    (fieldNat_three (hlong 6 (by omega))).trans (u24_reads (by omega))
  have h7 : fieldNat (presenceFields s) 7 2 = s.settings.trim :=
    (fieldNat_two (hlong 8 (by omega))).trans (u16_reads (by omega))
  have h9 : bringDepth (fieldNat (presenceFields s) 9 2) = s.ownDepthSent :=
    (congrArg bringDepth (fieldNat_two (hlong 10 (by omega)))).trans (depth_reads (ownDepthSent_atMost hdepth))
  have h11 : fieldAt (presenceFields s) 11 = s.sounding.ownQuality := u8_reads (by omega)
  have h12 : fieldAt (presenceFields s) 12 = s.stateByte.toNat := rfl
  have h13 : fieldAt (presenceFields s) 13 = (headByteOf s.head.state s.head.record.state).toNat := rfl
  have h14 : fieldBit (presenceFields s) 14 2 = s.tailWouldFollow := (packFlags_bits _ _ _ _ _ _ _ _).2
  obtain ⟨hhead, htest⟩ := headByteOf_reads s.head.state s.head.record.state
  obtain ⟨horientation, hcause⟩ := stateByte_codes s
  have hbad : ¬(240 < s.settings.address ∨ s.stateByte.toNat % 4 = 3 ∨ s.stateByte.toNat / 4 % 4 = 3 ∨
      15 < s.sounding.ownQuality) := by omega
  have hbringInterval : bringInterval s.sched.interval = s.sched.interval := by
    simp only [bringInterval]
    omega
  have hbringTrim : bringTrim s.settings.trim = s.settings.trim := by
    simp only [bringTrim, Config.trimLow, Config.trimHigh]
    omega
  simp only [readPresence, h2, h3, h4, h7, h9, h11, h12, h13, h14, htest, hhead, Config.addressTop, hbad, if_false,
    hbringInterval, hbringTrim]

/-- A peer reads of a captured TEST what the station held (R31). -/
theorem readTest_captured (e : TestEvent) (haddress : s.settings.address ≤ 240) (hnumber : 1 ≤ e.number ∧ e.number ≤ 255) :
    readTest (testFields s e) = .message (.test s.settings.address e.kind e.number e.type) := by
  have h2 : fieldAt (testFields s e) 2 = s.settings.address := u8_reads (by omega)
  have h3 : testKindOfCode (fieldAt (testFields s e) 3) = some e.kind := testKind_reads e.kind
  have h4 : headTypeOfCode (fieldAt (testFields s e) 4) = some e.type := headType_reads e.type
  have h5 : fieldAt (testFields s e) 5 = e.number := u8_reads (by omega)
  have hbad : ¬(240 < s.settings.address ∨ e.number = 0) := by omega
  simp only [readTest, h2, h3, h4, h5, Config.addressTop, hbad, if_false]

/-- Settles O16. -/
theorem presenceAndTestReadAsCaptured : Obligations.PresenceAndTestReadAsCaptured := by
  intro s stored check hsite haddress
  refine ⟨fun o => ⟨rfl, rfl, rfl⟩, frameSite_presence s, frameSite_test s, ?_, ?_⟩
  · intro hshort hlong huptime hlow hhigh hquality hdepth
    exact judgeFrame_of (k := .presence) rfl (lengthCheck_presence s) (by rwa [frameSite_presence])
      (readPresence_captured haddress ⟨hshort, hlong⟩ huptime ⟨hlow, hhigh⟩ hquality hdepth)
  · intro e hone htop
    exact judgeFrame_of (k := .test) rfl rfl (by rwa [frameSite_test]) (readTest_captured e haddress ⟨hone, htop⟩)

/-! ### REPLY (R34 to R37, R154) -/

/-- The fields of a REPLY up to its item: the site, ANSWER or REFUSAL, the requester (R34). -/
def replyHead (s : State) (r : PendingReply) (refused : Byte) (rest : List Byte) : List Byte :=
  s.settings.site.extractLsb' 8 8 :: s.settings.site.extractLsb' 0 8 :: refused :: r.requester.extractLsb' 32 8 ::
    r.requester.extractLsb' 24 8 :: r.requester.extractLsb' 16 8 :: r.requester.extractLsb' 8 8 ::
    r.requester.extractLsb' 0 8 :: u8 r.item :: rest

theorem replyFields_answer {r : PendingReply} {body : List Byte} (h : replyContent s r = .answer body) :
    replyFields s r = replyHead s r 0 (indexBytes r ++ body) := by
  simp only [replyFields, h, List.append_assoc]
  rfl

theorem replyFields_refusal {r : PendingReply} {reason : Nat} (h : replyContent s r = .refusal reason) :
    replyFields s r = replyHead s r 1 (indexBytes r ++ [u8 reason, s.flagByte]) := by
  simp only [replyFields, h, List.append_assoc]
  rfl

/-- An ANSWER of the length its item calls for is accepted: none of its values are examined (R25, R37). -/
theorem judgeFrame_answer {r : PendingReply} {body : List Byte} {stored : Site} {check : Byte}
    (hsite : stored = 0 ∨ s.settings.site = 0 ∨ stored = s.settings.site)
    (hlength : answerLength (replyHead s r 0 (indexBytes r ++ body)) = none) (h : replyContent s r = .answer body) :
    judgeFrame stored ⟨5, s.settings.serial, replyFields s r, check⟩ = .message .reply := by
  rw [replyFields_answer h]
  have hcarried : frameSite (replyHead s r 0 (indexBytes r ++ body)) = s.settings.site := frameSite_cons _ _
  refine judgeFrame_of (k := .reply) rfl ?_ (by rwa [hcarried]) rfl
  have hlong : ¬(replyHead s r 0 (indexBytes r ++ body)).length < 9 := by
    simp only [replyHead, List.length_cons]
    omega
  have hanswer : fieldAt (replyHead s r 0 (indexBytes r ++ body)) 2 = 0 := rfl
  simp only [lengthCheck, replyLength, hlong, if_false, hanswer, hlength]

/-- The first-finding serial of a SUMMARY, which ends its body where a finding is seen (R35). -/
def LoopPicture.findingBytes (p : LoopPicture) : List Byte :=
  match p.firstFinding with
  | some c => serialBytes c
  | none => []

theorem summaryBody_length (s : State) : (summaryBody s).length = 32 + s.loopPicture.findingBytes.length := by
  simp only [summaryBody, u16Opt, u16, u24, List.length_append, List.length_cons, List.length_nil]
  rfl

/-- The findings byte is 0 in its three bits exactly where no serial follows (R28, R35, R105). -/
theorem findings_length (s : State) :
    (if s.loopPicture.findingsByte.toNat % 8 = 0 then 41 else 46) = 41 + s.loopPicture.findingBytes.length := by
  have hbits : ∀ b2 b1 b0 : Bool, (packFlags false false false false false b2 b1 b0).toNat % 8 = 0 ↔
      b0 = false ∧ b1 = false ∧ b2 = false := by decide
  have hnone := pictureOf_firstFinding_eq_none s.roster s.port.orientation
  have hpicture : pictureOf s.roster s.port.orientation = s.loopPicture := rfl
  rw [hpicture, ← hbits] at hnone
  unfold LoopPicture.findingBytes
  cases hfinding : s.loopPicture.firstFinding with
  | none => exact if_pos (hnone.1 hfinding)
  | some c => exact if_neg fun h => by simp [hnone.2 h] at hfinding

theorem answerLength_summary (s : State) (requester : Serial) :
    answerLength (replyHead s ⟨requester, 0, none⟩ 0 (summaryBody s)) = none := by
  have hitem : fieldAt (replyHead s ⟨requester, 0, none⟩ 0 (summaryBody s)) 8 = 0 := rfl
  have hfindings : fieldAt (replyHead s ⟨requester, 0, none⟩ 0 (summaryBody s)) 22 =
      s.loopPicture.findingsByte.toNat := rfl
  have hlength : (replyHead s ⟨requester, 0, none⟩ 0 (summaryBody s)).length =
      41 + s.loopPicture.findingBytes.length := by
    simp only [replyHead, List.length_cons, summaryBody_length]
    omega
  have hlong : ¬41 + s.loopPicture.findingBytes.length < 23 := by omega
  simp only [answerLength, hitem, hfindings, hlength, hlong, if_false, findings_length, needLength_self]

/-- A REFUSAL has the length that its item calls for (R25). -/
theorem replyLength_refusal {fields : List Byte} {item : Nat} (hlong : 9 ≤ fields.length) (hrefused : fieldAt fields 2 = 1)
    (hitem : fieldAt fields 8 = item) :
    replyLength fields = needLength fields.length (if itemHasIndex item = true then 12 else 11) := by
  simp only [replyLength, Nat.not_lt.2 hlong, if_false, hrefused, hitem]

/-- NO_SUCH_ENTRY belongs to an item with an index (R37). -/
theorem readReply_noSuchEntry {fields : List Byte} {item : Nat} (hrefused : fieldAt fields 2 = 1)
    (hitem : fieldAt fields 8 = item) (hindexed : itemHasIndex item = true) (hreason : fieldAt fields 10 = 0) :
    readReply fields = .message .reply := by
  simp [readReply, hrefused, hitem, hindexed, hreason]

/-- UNKNOWN_ITEM belongs to an item over 4 (R37). -/
theorem readReply_unknownItem {fields : List Byte} {item : Nat} (hrefused : fieldAt fields 2 = 1)
    (hitem : fieldAt fields 8 = item) (hindexed : itemHasIndex item = false) (hlarge : 4 < item)
    (hreason : fieldAt fields 9 = 1) : readReply fields = .message .reply := by
  have hover : ¬item ≤ 4 := Nat.not_le.2 hlarge
  simp [readReply, hrefused, hitem, hindexed, hreason, hover]

/-- A REFUSAL is accepted: of an item with an index for NO_SUCH_ENTRY (0), of another over 4 for UNKNOWN_ITEM (1) (R25,
R37). -/
theorem judgeFrame_refusal {requester : Serial} {item reason : Nat} {index : Option Nat} {stored : Site} {check : Byte}
    (hsite : stored = 0 ∨ s.settings.site = 0 ∨ stored = s.settings.site) (hrange : item < 256)
    (h : replyContent s ⟨requester, item, index⟩ = .refusal reason)
    (hreason : (itemHasIndex item = true ∧ index.isSome = true ∧ reason = 0) ∨
      (itemHasIndex item = false ∧ index = none ∧ 4 < item ∧ reason = 1)) :
    judgeFrame stored ⟨5, s.settings.serial, replyFields s ⟨requester, item, index⟩, check⟩ = .message .reply := by
  have hitem (rest : List Byte) : fieldAt (replyHead s ⟨requester, item, index⟩ 1 rest) 8 = item := u8_reads hrange
  have hrefused (rest : List Byte) : fieldAt (replyHead s ⟨requester, item, index⟩ 1 rest) 2 = 1 := rfl
  have hlong (rest : List Byte) : 9 ≤ (replyHead s ⟨requester, item, index⟩ 1 rest).length := Nat.le_add_left 9 rest.length
  have hsite' (rest : List Byte) : frameSite (replyHead s ⟨requester, item, index⟩ 1 rest) = s.settings.site :=
    frameSite_cons _ _
  rw [replyFields_refusal h]
  obtain ⟨hindexed, hindex, rfl⟩ | ⟨hindexed, rfl, hlarge, rfl⟩ := hreason
  · obtain ⟨i, rfl⟩ := Option.isSome_iff_exists.1 hindex
    refine judgeFrame_of (k := .reply) rfl ?_ (by rwa [hsite']) (readReply_noSuchEntry (hrefused _) (hitem _) hindexed rfl)
    refine (replyLength_refusal (hlong [_, _, _]) (hrefused _) (hitem _)).trans ?_
    rw [if_pos hindexed]
    rfl
  · refine judgeFrame_of (k := .reply) rfl ?_ (by rwa [hsite'])
      (readReply_unknownItem (hrefused _) (hitem _) hindexed hlarge rfl)
    refine (replyLength_refusal (hlong [_, _]) (hrefused _) (hitem _)).trans ?_
    rw [hindexed]
    rfl

/-- An item over 4 is none of those that the reply unit answers (R159). -/
theorem replyContent_unknown {r : PendingReply} (hlarge : 4 < r.item) : replyContent s r = .refusal 1 := by
  unfold replyContent
  split
  case h_5 => rfl
  all_goals omega

/-- Settles O17: the item decides between an ANSWER of its length and a REFUSAL. -/
theorem capturedReplyAccepted : Obligations.CapturedReplyAccepted := by
  rintro s ⟨requester, item, index⟩ stored check hsite hrange hsound hindex
  dsimp only at hrange hsound hindex
  have hbyte : item < 256 := Nat.lt_succ_of_le hrange
  have hnone : ¬(item = 1 ∨ item = 2) → index = none := fun h => Option.not_isSome_iff_eq_none.1 (mt hindex.1 h)
  obtain rfl | rfl | rfl | rfl | hlarge : item = 0 ∨ item = 1 ∨ item = 2 ∨ item = 4 ∨ 4 < item := by omega
  · obtain rfl := hnone (by omega)
    exact judgeFrame_answer hsite (answerLength_summary s requester) rfl
  · obtain ⟨i, rfl⟩ := Option.isSome_iff_exists.1 (hindex.2 (.inl rfl))
    cases hentry : s.roster.entries[i]? with
    | some e => exact judgeFrame_answer (body := entryBody e) hsite rfl (by simp [replyContent, hentry])
    | none =>
      exact judgeFrame_refusal hsite hbyte (reason := 0) (by simp [replyContent, hentry]) (.inl ⟨rfl, rfl, rfl⟩)
  · obtain ⟨i, rfl⟩ := Option.isSome_iff_exists.1 (hindex.2 (.inr rfl))
    cases hentry : s.journal.entries[i]? with
    | some j => exact judgeFrame_answer (body := journalBody j) hsite rfl (by simp [replyContent, hentry])
    | none =>
      exact judgeFrame_refusal hsite hbyte (reason := 0) (by simp [replyContent, hentry]) (.inl ⟨rfl, rfl, rfl⟩)
  · obtain rfl := hnone (by omega)
    exact judgeFrame_answer (body := []) hsite rfl rfl
  · obtain rfl := hnone (by omega)
    have hindexed : itemHasIndex item = false := by
      have hone : item ≠ 1 := by omega
      have htwo : item ≠ 2 := by omega
      simp [itemHasIndex, hone, htwo]
    exact judgeFrame_refusal hsite hbyte (replyContent_unknown hlarge) (.inr ⟨hindexed, rfl, hlarge, rfl⟩)

end Sys2Proof.Machine
end

section
/-! SUPPORT. A frame as its half-cells, decoded (R4, R6, R14, R22). -/

namespace Sys2Proof.Machine

/-! ### The CHECK (R22) -/

/-- A shift of the CHECK register loses nothing. -/
theorem crcShift_eq_zero (r : Byte) : crcShift r = 0 ↔ r = 0 := by
  revert r
  decide

/-- The register ends at 0 exactly when the last byte is what it held. -/
theorem crcByte_eq_zero (r b : Byte) : crcByte r b = 0 ↔ b = r := by
  simp only [crcByte, crcShift_eq_zero]
  exact BitVec.xor_eq_zero_iff.trans eq_comm

theorem checkCorrect_iff (f : Frame) : f.checkCorrect = true ↔ f.check = checkOf f.cls f.serial f.fields := by
  rw [Frame.checkCorrect, beq_iff_eq, crc, List.foldl_append]
  exact crcByte_eq_zero _ _

/-! ### Bits and bytes -/

theorem bitsToNat_concat (bs : List Bool) (b : Bool) : bitsToNat (bs ++ [b]) = 2 * bitsToNat bs + b.toNat := by
  simp [bitsToNat, List.foldl_append]

/-- The first `k` bits of a bit vector spell its upper part. -/
theorem bitsToNat_upperBits {w : Nat} (x : BitVec w) (k : Nat) (hk : k ≤ w) :
    bitsToNat ((List.range k).map fun j => x.getMsbD j) = x.toNat / 2 ^ (w - k) := by
  induction k with
  | zero => simp [bitsToNat, Nat.div_eq_of_lt x.isLt]
  | succ k ih =>
    have hshift : w - k = (w - (k + 1)) + 1 := by omega
    have hbit : x.getMsbD k = x.toNat.testBit (w - (k + 1)) := by
      simp [BitVec.getMsbD, show k < w by omega, BitVec.getLsbD, show w - 1 - k = w - (k + 1) by omega]
    rw [List.range_succ, List.map_append, List.map_singleton, bitsToNat_concat, ih (by omega), hbit, hshift, Nat.pow_succ,
      ← Nat.div_div_eq_div_mul, Nat.toNat_testBit]
    omega

theorem bitsToNat_bitsOf {w : Nat} (x : BitVec w) : bitsToNat (bitsOf x) = x.toNat := by
  rw [bitsOf, bitsToNat_upperBits x w (Nat.le_refl _), Nat.sub_self, Nat.pow_zero, Nat.div_one]

theorem bitsOf_length {w : Nat} (x : BitVec w) : (bitsOf x).length = w := by simp [bitsOf]

theorem flatMap_bitsOf_length (bs : List Byte) : (bs.flatMap bitsOf).length = 8 * bs.length := by
  simp only [List.length_flatMap, bitsOf_length, List.map_const', List.sum_replicate_nat]
  exact Nat.mul_comm _ _

/-- Bytes are read back from their bits. -/
theorem bytesOfBits_flatMap (bs : List Byte) (rest : List Bool) :
    bytesOfBits bs.length (bs.flatMap bitsOf ++ rest) = bs := by
  induction bs with
  | nil => rfl
  | cons b bs ih =>
    rw [List.flatMap_cons, List.append_assoc, List.length_cons, bytesOfBits,
      List.take_left' (bitsOf_length b), List.drop_left' (bitsOf_length b), ih, bitsToNat_bitsOf]
    simp

/-! ### Cells (R4, R6) -/

theorem cellsOf_halvesOf (cells : List Cell) : cellsOf (halvesOf cells) = cells := by
  induction cells with
  | nil => rfl
  | cons c cells ih => exact congrArg (c :: ·) ih

theorem halvesOf_length (cells : List Cell) : (halvesOf cells).length = 2 * cells.length := by
  induction cells with
  | nil => rfl
  | cons c cells ih =>
    have hcons : (halvesOf (c :: cells)).length = (halvesOf cells).length + 2 := rfl
    rw [hcons, ih, List.length_cons]
    omega

/-- Split-phase cells are read back as their bits. -/
theorem readBits_split (bs : List Bool) (rest : List Cell) :
    readBits bs.length (bs.map splitCell ++ rest) = .bits bs rest := by
  induction bs with
  | nil => rfl
  | cons b bs ih =>
    have hcoded : b ≠ !b := by cases b <;> decide
    simp [readBits, splitCell, hcoded, ih]

theorem payloadHalves_two {halves : List Bool} (h : 2 ≤ halves.length) : 2 ≤ payloadHalves halves := by
  unfold payloadHalves
  split
  · omega
  · exact h
  · exact h

/-! ### The frame of a sender (R6, R14) -/

/-- The split-phase bits of a frame: LENGTH, the fields, CHECK. -/
def Frame.payloadBits (f : Frame) : List Bool := (payloadBytes f.fields f.check).flatMap bitsOf

theorem payloadBits_eq (f : Frame) :
    f.payloadBits = bitsOf (u8 f.fields.length) ++ ((f.fields.flatMap bitsOf) ++ bitsOf f.check) := by
  simp [Frame.payloadBits, payloadBytes]

theorem payloadBits_length (f : Frame) : f.payloadBits.length = 8 * (f.fields.length + 2) := by
  rw [Frame.payloadBits, flatMap_bitsOf_length]
  simp [payloadBytes]

/-- The cells of a frame after START: the contention field, and the payload. -/
theorem frameCells_eq (f : Frame) : frameCells f =
    (true, true) :: ((bitsOf f.cls ++ bitsOf f.serial).map wholeCell ++ f.payloadBits.map splitCell) := rfl

theorem contention_length (f : Frame) : ((bitsOf f.cls ++ bitsOf f.serial).map wholeCell).length = 43 := by
  simp [bitsOf_length]

theorem frameHalves_length (f : Frame) : (frameHalves f).length = 2 * frameCellCount f.fields.length := by
  rw [frameHalves, halvesOf_length, frameCells_eq, List.length_cons, List.length_append, contention_length, List.length_map,
    payloadBits_length, frameCellCount]
  omega

/-- The half-cells after the contention field are those of the payload. -/
theorem frameHalves_drop (f : Frame) : (frameHalves f).drop 88 = halvesOf (f.payloadBits.map splitCell) := by
  have hsplit : frameHalves f = halvesOf ((true, true) :: (bitsOf f.cls ++ bitsOf f.serial).map wholeCell) ++
      halvesOf (f.payloadBits.map splitCell) := by
    rw [frameHalves, frameCells_eq]
    simp [halvesOf]
  rw [hsplit]
  refine List.drop_left' ?_
  rw [halvesOf_length, List.length_cons, contention_length]

/-- A payload is never without sink: its first cell has one half that is. -/
theorem payloadSilent_frame (f : Frame) : payloadSilent (frameHalves f) (frameHalves f) = false := by
  have htwo : 2 ≤ payloadHalves (frameHalves f) := payloadHalves_two (by rw [frameHalves_length, frameCellCount]; omega)
  obtain ⟨n, hn⟩ := Nat.exists_eq_add_of_le' htwo
  cases hbits : f.payloadBits with
  | nil =>
    have hlength := payloadBits_length f
    rw [hbits] at hlength
    simp at hlength
  | cons b bs =>
    rw [payloadSilent, show Config.contentionHalves = 88 from rfl, frameHalves_drop, hbits, hn]
    cases b <;> simp [halvesOf, splitCell]

/-- The payload cells of a frame are read as its LENGTH, its fields and its CHECK (R6, R14). -/
theorem decodePayload_frame (f : Frame) (heardV : List Bool) (hlength : f.fields.length ≤ 48) :
    decodePayload f.cls f.serial (f.payloadBits.map splitCell) heardV = finishDecode f heardV := by
  have hbits : f.payloadBits.map splitCell = (bitsOf (u8 f.fields.length)).map splitCell ++
      ((f.fields.flatMap bitsOf) ++ bitsOf f.check).map splitCell := by
    rw [payloadBits_eq, List.map_append]
  have hread := readBits_split (bitsOf (u8 f.fields.length)) (((f.fields.flatMap bitsOf) ++ bitsOf f.check).map splitCell)
  have hbody := readBits_split ((f.fields.flatMap bitsOf) ++ bitsOf f.check) []
  have hbodyLength : ((f.fields.flatMap bitsOf) ++ bitsOf f.check).length = 8 * (f.fields.length + 1) := by
    rw [List.length_append, flatMap_bitsOf_length, bitsOf_length]
    omega
  have hvalue : bitsToNat (bitsOf (u8 f.fields.length)) = f.fields.length := by
    rw [bitsToNat_bitsOf]
    exact u8_reads (by omega)
  have hshort : ¬48 < f.fields.length := by omega
  have hfields : bytesOfBits f.fields.length ((f.fields.flatMap bitsOf) ++ bitsOf f.check) = f.fields :=
    bytesOfBits_flatMap _ _
  have hcheck : BitVec.ofNat 8 (bitsToNat (((f.fields.flatMap bitsOf) ++ bitsOf f.check).drop (8 * f.fields.length))) =
      f.check := by
    rw [List.drop_left' (flatMap_bitsOf_length _), bitsToNat_bitsOf]
    simp
  rw [bitsOf_length] at hread
  rw [List.append_nil, hbodyLength] at hbody
  simp only [decodePayload, hbits, hread, hvalue, Config.maxLength, hshort, if_false, hbody, hfields, hcheck]

/-- A frame heard alone decodes to its CHECK's verdict (R14). -/
theorem decodeChannel_frame (f : Frame) (hlength : f.fields.length ≤ 48) :
    decodeChannel (frameHalves f) (frameHalves f) = finishDecode f (frameHalves f) := by
  have hcells : cellsOf (frameHalves f) = frameCells f := cellsOf_halvesOf _
  have htake : (((bitsOf f.cls ++ bitsOf f.serial).map wholeCell ++ f.payloadBits.map splitCell).take 43).map Prod.fst =
      bitsOf f.cls ++ bitsOf f.serial := by
    rw [List.take_left' (contention_length f), List.map_map]
    exact List.map_id _
  have hdrop : ((bitsOf f.cls ++ bitsOf f.serial).map wholeCell ++ f.payloadBits.map splitCell).drop 43 =
      f.payloadBits.map splitCell := List.drop_left' (contention_length f)
  have hcls : BitVec.ofNat 3 (bitsToNat ((bitsOf f.cls ++ bitsOf f.serial).take 3)) = f.cls := by
    rw [List.take_left' (bitsOf_length f.cls), bitsToNat_bitsOf]
    simp
  have hserial : BitVec.ofNat 40 (bitsToNat ((bitsOf f.cls ++ bitsOf f.serial).drop 3)) = f.serial := by
    rw [List.drop_left' (bitsOf_length f.cls), bitsToNat_bitsOf]
    simp
  rw [decodeChannel, payloadSilent_frame, hcells, frameCells_eq]
  simp only [htake, hdrop, hcls, hserial]
  exact decodePayload_frame f _ hlength

/-- Nothing is heard after the CHECK cell of a frame heard alone, so its CHECK decides (R14). -/
theorem finishDecode_frame (f : Frame) : finishDecode f (frameHalves f) =
    if f.check = checkOf f.cls f.serial f.fields then .valid f else .check := by
  have hnothing : (frameHalves f).drop (2 * frameCellCount f.fields.length) = [] :=
    List.drop_eq_nil_of_le (Nat.le_of_eq (frameHalves_length f))
  unfold finishDecode
  rw [hnothing]
  by_cases hcheck : f.check = checkOf f.cls f.serial f.fields
  · simp [hcheck, (checkCorrect_iff f).2 hcheck]
  · simp [hcheck, Bool.eq_false_iff.2 (mt (checkCorrect_iff f).1 hcheck)]

/-- Settles O15. -/
theorem frameDecodesByItsCheck : Obligations.FrameDecodesByItsCheck := by
  intro cls serial fields check hlength
  rw [decodeChannel_frame _ hlength, finishDecode_frame]

end Sys2Proof.Machine
end
